-- ==== Sys2Proof/Word.lean ====
section
/-! DEFINITION. Word.lean: the word types of the LFSR3 core (R12, R70, R72).
A sequence of n bits is held as its word `Word(S)` of rule R13; `Machine/Operands.lean` gives the sequence view of it. -/

namespace Sys2Proof

/-- A command word (R70). -/
abbrev CmdWord := BitVec 32

/-- A response word (R72). -/
abbrev RspWord := BitVec 32

/-- The 24-bit payload of a command and the 24-bit data of a response (R70, R72); also a prefix of `L = 24` bits (R28). -/
abbrev Payload := BitVec 24

/-- A sequence of the width of register X (R7). -/
abbrev XWord := BitVec 19

/-- A sequence of the width of register Y, and a candidate number (R7, R161). -/
abbrev YWord := BitVec 22

/-- A sequence of the width of register Z (R7). -/
abbrev ZWord := BitVec 23

/-- The position of a clocking bit, 5 bits (R25). -/
abbrev Index := BitVec 5

end Sys2Proof
end

