-- ==== Sys2Proof/Config.lean ====
section
/-! DEFINITION. Config.lean: the fixed parameters of the core (R7, R10) and the free values of the model.
The tap sets and the clocking-bit positions are run-time registers (R8) and stand in State, not here. -/

namespace Sys2Proof

/-- The three register roles (R2, R71). -/
inductive Reg where
  | x
  | y
  | z
  deriving DecidableEq, Repr

/-- `W_r`, the width of register `r` (R7). -/
abbrev Reg.width : Reg → Nat
  | .x => 19
  | .y => 22
  | .z => 23

/-- `L`, the trial prefix length (R7). -/
def Config.prefixLen : Nat := 24

/-- `N_CAND = 2^22`, the number of candidates (R7). -/
def Config.nCand : Nat := 4194304

/-- What an accepted SEARCH leaves in LFSR[X]: unspecified by R37 and R166, so a FREE VALUE, fresh for each use. (Log 4) -/
opaque Config.freeLfsrX : Nat → XWord

/-- What an accepted SEARCH leaves in LFSR[Y]: a FREE VALUE. (Log 4) -/
opaque Config.freeLfsrY : Nat → YWord

/-- What an accepted SEARCH leaves in LFSR[Z]: a FREE VALUE. (Log 4) -/
opaque Config.freeLfsrZ : Nat → ZWord

/-- What CAND holds after a SEARCH: nothing the spec states (R34), so a FREE VALUE. (Log 4) -/
opaque Config.freeCand : Nat → BitVec 23

/-- What IDX holds after a SEARCH: nothing the spec states (R34), so a FREE VALUE. (Log 4) -/
opaque Config.freeIdx : Nat → BitVec 5

end Sys2Proof
end

