-- ==== Sys2Proof/Syntax.lean ====
section
/-! DEFINITION. Syntax.lean: one constructor per row of spec/opcode_table.json (R77), its operand as the row's operand field. -/

namespace Sys2Proof

/-- A command of the LFSR3 core (R77). Sequences are held as words, position 0 in the most significant bit (R13). -/
inductive Instr where
  /-- `NOP` (R210). -/
  | nop
  /-- `SETTAP X, mask` (R106): position i of `mask` is 1 when i is a tap. -/
  | settapX (mask : XWord)
  /-- `SETTAP Y, mask` (R106). -/
  | settapY (mask : YWord)
  /-- `SETTAP Z, mask` (R106). -/
  | settapZ (mask : ZWord)
  /-- `SETCLK X, idx` (R124): an index of 5 bits; above 18 it is legal to decode and answers ERR_OPERAND. -/
  | setclkX (idx : Nat)
  /-- `SETCLK Y, idx` (R124). -/
  | setclkY (idx : Nat)
  /-- `SETCLK Z, idx` (R124). -/
  | setclkZ (idx : Nat)
  /-- `SEED X, bits` (R107). -/
  | seedX (bits : XWord)
  /-- `SEED Y, bits` (R107). -/
  | seedY (bits : YWord)
  /-- `SEED Z, bits` (R107). -/
  | seedZ (bits : ZWord)
  /-- `INIT` (R134). -/
  | init
  /-- `STEP` (R135). -/
  | step
  /-- `CRYPT b` (R152). -/
  | crypt (b : Bool)
  /-- `SETCT bits` (R164). -/
  | setct (bits : Payload)
  /-- `SETKP bits` (R165). -/
  | setkp (bits : Payload)
  /-- `SEARCH` (R166). -/
  | search
  /-- `RD.STATUS` (R211). -/
  | rdStatus
  /-- `RD.RES` (R211). -/
  | rdRes
  /-- `RD.TAP X` (R211). -/
  | rdTapX
  /-- `RD.TAP Y` (R211). -/
  | rdTapY
  /-- `RD.TAP Z` (R211). -/
  | rdTapZ
  /-- `RD.CLK X` (R211). -/
  | rdClkX
  /-- `RD.CLK Y` (R211). -/
  | rdClkY
  /-- `RD.CLK Z` (R211). -/
  | rdClkZ
  /-- `RD.SEED X` (R211). -/
  | rdSeedX
  /-- `RD.SEED Y` (R211). -/
  | rdSeedY
  /-- `RD.SEED Z` (R211). -/
  | rdSeedZ
  /-- `RD.LFSR X` (R211). -/
  | rdLfsrX
  /-- `RD.LFSR Y` (R211). -/
  | rdLfsrY
  /-- `RD.LFSR Z` (R211). -/
  | rdLfsrZ
  /-- `RD.CT` (R211). -/
  | rdCt
  /-- `RD.KP` (R211). -/
  | rdKp
  deriving DecidableEq, Repr

/-- The row's mnemonic, as spec/opcode_table.json spells it. -/
def Instr.mnemonic : Instr → String
  | .nop => "NOP"
  | .settapX _ => "SETTAP_X"
  | .settapY _ => "SETTAP_Y"
  | .settapZ _ => "SETTAP_Z"
  | .setclkX _ => "SETCLK_X"
  | .setclkY _ => "SETCLK_Y"
  | .setclkZ _ => "SETCLK_Z"
  | .seedX _ => "SEED_X"
  | .seedY _ => "SEED_Y"
  | .seedZ _ => "SEED_Z"
  | .init => "INIT"
  | .step => "STEP"
  | .crypt _ => "CRYPT"
  | .setct _ => "SETCT"
  | .setkp _ => "SETKP"
  | .search => "SEARCH"
  | .rdStatus => "RD.STATUS"
  | .rdRes => "RD.RES"
  | .rdTapX => "RD.TAP_X"
  | .rdTapY => "RD.TAP_Y"
  | .rdTapZ => "RD.TAP_Z"
  | .rdClkX => "RD.CLK_X"
  | .rdClkY => "RD.CLK_Y"
  | .rdClkZ => "RD.CLK_Z"
  | .rdSeedX => "RD.SEED_X"
  | .rdSeedY => "RD.SEED_Y"
  | .rdSeedZ => "RD.SEED_Z"
  | .rdLfsrX => "RD.LFSR_X"
  | .rdLfsrY => "RD.LFSR_Y"
  | .rdLfsrZ => "RD.LFSR_Z"
  | .rdCt => "RD.CT"
  | .rdKp => "RD.KP"

end Sys2Proof
end

