-- ==== Sys2Proof/WellFormed.lean ====
section
/-! DEFINITION. WellFormed.lean: which terms of Instr stand for a command word (R76, R78).
Every operand but one has exactly its field's width by its type; an index is a number, and its field has 5 bits. -/

namespace Sys2Proof

/-- The operand fits the field that carries it (R76: `imm[4:0]` = position index). An index above `W_r - 1` is still
well formed: it is a legal command that answers ERR_OPERAND (R78, R124). -/
def Instr.wellFormed : Instr → Bool
  | .nop => true
  | .settapX _ => true
  | .settapY _ => true
  | .settapZ _ => true
  | .setclkX idx => decide (idx < 32)
  | .setclkY idx => decide (idx < 32)
  | .setclkZ idx => decide (idx < 32)
  | .seedX _ => true
  | .seedY _ => true
  | .seedZ _ => true
  | .init => true
  | .step => true
  | .crypt _ => true
  | .setct _ => true
  | .setkp _ => true
  | .search => true
  | .rdStatus => true
  | .rdRes => true
  | .rdTapX => true
  | .rdTapY => true
  | .rdTapZ => true
  | .rdClkX => true
  | .rdClkY => true
  | .rdClkZ => true
  | .rdSeedX => true
  | .rdSeedY => true
  | .rdSeedZ => true
  | .rdLfsrX => true
  | .rdLfsrY => true
  | .rdLfsrZ => true
  | .rdCt => true
  | .rdKp => true

end Sys2Proof
end

