-- ==== Sys2Proof/Decode.lean ====
section
/-! DEFINITION. Decode.lean: the opcode map (R77), total decoding (R80, R82), and the encoder (R70, R74, R76). -/

namespace Sys2Proof

/-- The fields of a command word (R70). -/
def cmdOp (w : CmdWord) : BitVec 4 := w.extractLsb' 28 4

/-- `cmd[27:26]`, the register selector (R70, R71). -/
def cmdSel (w : CmdWord) : BitVec 2 := w.extractLsb' 26 2

/-- `cmd[25:24]`, reserved, must be 00 (R70). -/
def cmdRsv (w : CmdWord) : BitVec 2 := w.extractLsb' 24 2

/-- `cmd[23:0]`, the payload (R70). -/
def cmdImm (w : CmdWord) : Payload := w.extractLsb' 0 24

/-- One row of the opcode map (R77): a word `w` is this form exactly when `w AND mask = bits`. -/
structure Row where
  mnemonic : String
  bits : CmdWord
  mask : CmdWord
  build : CmdWord → Instr

/-- `(w AND mask) == match` (R77). -/
def Row.accepts (r : Row) (w : CmdWord) : Bool := w &&& r.mask == r.bits

/-- The rows that write configuration and seeds (R77). -/
def writeRows : List Row := [
  ⟨"NOP", 0x00000000, 0xFFFFFFFF, fun _ => .nop⟩,
  ⟨"SETTAP_X", 0x10000000, 0xFFF80000, fun w => .settapX (w.extractLsb' 0 19)⟩,
  ⟨"SETTAP_Y", 0x14000000, 0xFFC00000, fun w => .settapY (w.extractLsb' 0 22)⟩,
  ⟨"SETTAP_Z", 0x18000000, 0xFF800000, fun w => .settapZ (w.extractLsb' 0 23)⟩,
  ⟨"SETCLK_X", 0x20000000, 0xFFFFFFE0, fun w => .setclkX (w.extractLsb' 0 5).toNat⟩,
  ⟨"SETCLK_Y", 0x24000000, 0xFFFFFFE0, fun w => .setclkY (w.extractLsb' 0 5).toNat⟩,
  ⟨"SETCLK_Z", 0x28000000, 0xFFFFFFE0, fun w => .setclkZ (w.extractLsb' 0 5).toNat⟩,
  ⟨"SEED_X", 0x30000000, 0xFFF80000, fun w => .seedX (w.extractLsb' 0 19)⟩,
  ⟨"SEED_Y", 0x34000000, 0xFFC00000, fun w => .seedY (w.extractLsb' 0 22)⟩,
  ⟨"SEED_Z", 0x38000000, 0xFF800000, fun w => .seedZ (w.extractLsb' 0 23)⟩]

/-- The rows that run the generator, the transform and the search (R77). -/
def runRows : List Row := [
  ⟨"INIT", 0x40000000, 0xFFFFFFFF, fun _ => .init⟩,
  ⟨"STEP", 0x50000000, 0xFFFFFFFF, fun _ => .step⟩,
  ⟨"CRYPT", 0x60000000, 0xFFFFFFFE, fun w => .crypt (w.getLsbD 0)⟩,
  ⟨"SETCT", 0x70000000, 0xFF000000, fun w => .setct (w.extractLsb' 0 24)⟩,
  ⟨"SETKP", 0x80000000, 0xFF000000, fun w => .setkp (w.extractLsb' 0 24)⟩,
  ⟨"SEARCH", 0x90000000, 0xFFFFFFFF, fun _ => .search⟩]

/-- The rows of `RD` (R77, R79). -/
def readRows : List Row := [
  ⟨"RD.STATUS", 0xA0000000, 0xFFFFFFFF, fun _ => .rdStatus⟩,
  ⟨"RD.RES", 0xA0000001, 0xFFFFFFFF, fun _ => .rdRes⟩,
  ⟨"RD.TAP_X", 0xA0000002, 0xFFFFFFFF, fun _ => .rdTapX⟩,
  ⟨"RD.TAP_Y", 0xA4000002, 0xFFFFFFFF, fun _ => .rdTapY⟩,
  ⟨"RD.TAP_Z", 0xA8000002, 0xFFFFFFFF, fun _ => .rdTapZ⟩,
  ⟨"RD.CLK_X", 0xA0000003, 0xFFFFFFFF, fun _ => .rdClkX⟩,
  ⟨"RD.CLK_Y", 0xA4000003, 0xFFFFFFFF, fun _ => .rdClkY⟩,
  ⟨"RD.CLK_Z", 0xA8000003, 0xFFFFFFFF, fun _ => .rdClkZ⟩,
  ⟨"RD.SEED_X", 0xA0000004, 0xFFFFFFFF, fun _ => .rdSeedX⟩,
  ⟨"RD.SEED_Y", 0xA4000004, 0xFFFFFFFF, fun _ => .rdSeedY⟩,
  ⟨"RD.SEED_Z", 0xA8000004, 0xFFFFFFFF, fun _ => .rdSeedZ⟩,
  ⟨"RD.LFSR_X", 0xA0000005, 0xFFFFFFFF, fun _ => .rdLfsrX⟩,
  ⟨"RD.LFSR_Y", 0xA4000005, 0xFFFFFFFF, fun _ => .rdLfsrY⟩,
  ⟨"RD.LFSR_Z", 0xA8000005, 0xFFFFFFFF, fun _ => .rdLfsrZ⟩,
  ⟨"RD.CT", 0xA0000006, 0xFFFFFFFF, fun _ => .rdCt⟩,
  ⟨"RD.KP", 0xA0000007, 0xFFFFFFFF, fun _ => .rdKp⟩]

/-- The opcode map, 32 rows (R77). -/
def rows : List Row := writeRows ++ runRows ++ readRows

/-- Why a word has no command. -/
inductive Illegal where
  /-- The word matches no row of R77; the core answers ERR_ILLEGAL (R80, R82). -/
  | noRow
  deriving DecidableEq, Repr

/-- Decoding (R80): the command of the row that accepts the word, with the operand bits of the word. It is total and
reads no state. -/
def decode (w : CmdWord) : Except Illegal Instr :=
  match rows.find? (fun r => r.accepts w) with
  | some r => .ok (r.build w)
  | none => .error .noRow

/-- Assembling a command word from its fields, `rsv` = 00 (R70). -/
def cmdWord (op : BitVec 4) (r : BitVec 2) (imm : Payload) : CmdWord := op ++ r ++ (0 : BitVec 2) ++ imm

/-- The command word of an instruction, written from R70, R71, R74, R76 and R79. -/
def encode : Instr → CmdWord
  | .nop => cmdWord 0 0 0
  | .settapX mask => cmdWord 1 0 (mask.setWidth 24)
  | .settapY mask => cmdWord 1 1 (mask.setWidth 24)
  | .settapZ mask => cmdWord 1 2 (mask.setWidth 24)
  | .setclkX idx => cmdWord 2 0 (BitVec.ofNat 24 idx)
  | .setclkY idx => cmdWord 2 1 (BitVec.ofNat 24 idx)
  | .setclkZ idx => cmdWord 2 2 (BitVec.ofNat 24 idx)
  | .seedX bits => cmdWord 3 0 (bits.setWidth 24)
  | .seedY bits => cmdWord 3 1 (bits.setWidth 24)
  | .seedZ bits => cmdWord 3 2 (bits.setWidth 24)
  | .init => cmdWord 4 0 0
  | .step => cmdWord 5 0 0
  | .crypt b => cmdWord 6 0 ((BitVec.ofBool b).setWidth 24)
  | .setct bits => cmdWord 7 0 bits
  | .setkp bits => cmdWord 8 0 bits
  | .search => cmdWord 9 0 0
  | .rdStatus => cmdWord 10 0 0
  | .rdRes => cmdWord 10 0 1
  | .rdTapX => cmdWord 10 0 2
  | .rdTapY => cmdWord 10 1 2
  | .rdTapZ => cmdWord 10 2 2
  | .rdClkX => cmdWord 10 0 3
  | .rdClkY => cmdWord 10 1 3
  | .rdClkZ => cmdWord 10 2 3
  | .rdSeedX => cmdWord 10 0 4
  | .rdSeedY => cmdWord 10 1 4
  | .rdSeedZ => cmdWord 10 2 4
  | .rdLfsrX => cmdWord 10 0 5
  | .rdLfsrY => cmdWord 10 1 5
  | .rdLfsrZ => cmdWord 10 2 5
  | .rdCt => cmdWord 10 0 6
  | .rdKp => cmdWord 10 0 7

/-- What the decoder reads from an instruction whose `nbits` low bits are `w`, every higher bit being 0; a command is one
32-bit word (R70). (Log 10) -/
def decodeTableWord (nbits w : Nat) : Option Instr :=
  match decode (BitVec.ofNat 32 (w % 2 ^ nbits)) with
  | .ok i => some i
  | .error _ => none

end Sys2Proof
end

