-- ==== Sys2Proof/Machine/State.lean ====
section
/-! DEFINITION. Machine/State.lean: every piece of state the spec gives the core (10_state.md), as plain data, and its
value after reset (R36). -/

namespace Sys2Proof.Machine

/-- Three sequences, one for each register role: `LFSR`, `TAP` or `SEED` (R22, R24, R27); also a generator value
`G = (X, Y, Z)` (R130). Each is held as its word (R13, R105). -/
structure Regs where
  x : XWord
  y : YWord
  z : ZWord
  deriving DecidableEq, Repr

/-- The three clocking-bit positions `CLK[X]`, `CLK[Y]`, `CLK[Z]` (R25). -/
structure Indices where
  x : Index
  y : Index
  z : Index
  deriving DecidableEq, Repr

/-- A valid flag for each register role: `VTAP`, `VCLK` or `VSEED` (R29). -/
structure Marks where
  x : Bool
  y : Bool
  z : Bool
  deriving DecidableEq, Repr

/-- The configuration record `Cfg` (R8): the tap sets and the clocking-bit positions. -/
structure Cfg where
  tap : Regs
  clk : Indices
  deriving DecidableEq, Repr

/-- The values of `SRES` (R30); the fourth value of its 2-bit word is never stored. (Log 13) -/
inductive SearchFlag where
  /-- `NONE`, 0: no search has completed since reset or since the last SEARCH was accepted. -/
  | noResult
  /-- `FOUND`, 1. -/
  | found
  /-- `EXHAUSTED`, 2. -/
  | exhausted
  deriving DecidableEq, Repr

/-- The outcome of `Search` (R162). -/
inductive SearchOutcome where
  | found (y : YWord)
  | exhausted
  deriving DecidableEq, Repr

/-- The three errors of a command (R221). -/
inductive CmdError where
  /-- `ERR_ILLEGAL`: the word matches no row of the opcode map. -/
  | illegal
  /-- `ERR_OPERAND`: SETCLK's index is above `W_r - 1`. -/
  | operand
  /-- `ERR_UNINIT`: a register the command must read is not written, or there is no valid generator. -/
  | uninit
  deriving DecidableEq, Repr

/-- What the host does to the core's ports (R18, R75, R250). (Log 1, log 6) -/
inductive HostInput where
  /-- A command word presented on the command channel. -/
  | command (w : CmdWord)
  /-- The reset input is asserted while no command executes. -/
  | reset
  /-- A command is presented and reset strikes while it executes: it is abandoned (R250). -/
  | cutOff (w : CmdWord)
  deriving DecidableEq, Repr

/-- The state of the core (10_state.md) and of its two channels (R75). -/
structure State where
  /-- `LFSR[r]`, the working registers (R22). -/
  lfsr : Regs
  /-- `GV`, generator valid (R23). -/
  gv : Bool
  /-- `TAP[r]`, the tap sets as masks (R24). -/
  tap : Regs
  /-- `CLK[r]`, the clocking-bit positions (R25). -/
  clk : Indices
  /-- `SEED[r]` (R27). -/
  seed : Regs
  /-- `CT`, the ciphertext prefix (R28). -/
  ct : Payload
  /-- `KP`, the known-plaintext prefix (R28). -/
  kp : Payload
  /-- `VTAP[r]` (R29). -/
  vtap : Marks
  /-- `VCLK[r]` (R29). -/
  vclk : Marks
  /-- `VSEED[r]` (R29). -/
  vseed : Marks
  /-- `VCT` (R29). -/
  vct : Bool
  /-- `VKP` (R29). -/
  vkp : Bool
  /-- `SRES` (R30). -/
  sres : SearchFlag
  /-- `RES` (R30). -/
  res : YWord
  /-- `ERR`, sticky (R31). -/
  err : Bool
  /-- `ECODE`, the code of the first error since reset (R31). -/
  ecode : BitVec 4
  /-- `CAND`, the candidate counter, hidden (R34). -/
  cand : BitVec 23
  /-- `IDX`, the step index of a trial, hidden (R34). -/
  idx : BitVec 5
  /-- `BUSY`, 1 while a SEARCH executes, hidden (R34). -/
  busy : Bool
  /-- The host's inputs not yet taken, in the order presented (R57, R75). (Log 1) -/
  inbox : List HostInput
  /-- The responses delivered, oldest first (R57, R75). (Log 1) -/
  rspLog : List RspWord
  /-- The model's own counter: numbers the uses of the free values of Config. (Log 4) -/
  freeTick : Nat
  deriving DecidableEq, Repr

/-- Why the machine would stop with a fault: never. Every word is executed or answered by an error response, which is a
next state, and the core always becomes ready again (R223, R231). So no constructor, and nobody raises one. -/
inductive Fault where
  deriving DecidableEq, Repr

/-- Why the machine would have no meaning for an instruction. -/
inductive Refusal where
  /-- An instruction the model has no meaning for, by its mnemonic. Raised by an arm of `exec` only; no arm raises it, since
  "nothing is refused" (R231). Safe: the model stops where the hardware goes on. -/
  | notModelled (mnemonic : String)
  deriving DecidableEq, Repr

/-- What a step or a command ends in. -/
abbrev Result := Host.Outcome State Fault Refusal

/-- No flag of a trio is set. -/
def Marks.clear : Marks := ⟨false, false, false⟩

/-- The core right after reset (R36, R250, R251): every flag 0, `SRES = NONE`, `ERR = 0`, `ECODE = 0`, `BUSY = 0`.
The registers R36 calls unspecified hold zero, DESIGN CHOICE, unsafe (log 3); nothing is presented and nothing has been
answered (log 1). -/
def State.reset : State where
  lfsr := ⟨0, 0, 0⟩
  gv := false
  tap := ⟨0, 0, 0⟩
  clk := ⟨0, 0, 0⟩
  seed := ⟨0, 0, 0⟩
  ct := 0
  kp := 0
  vtap := Marks.clear
  vclk := Marks.clear
  vseed := Marks.clear
  vct := false
  vkp := false
  sres := .noResult
  res := 0
  err := false
  ecode := 0
  cand := 0
  idx := 0
  busy := false
  inbox := []
  rspLog := []
  freeTick := 0

end Sys2Proof.Machine
end

