-- ==== Sys2Proof/Machine/Operands.lean ====
section
/-! DEFINITION. Machine/Operands.lean: the bit order between sequences and words (R11, R13, R52, R74), and access to the
register a command names (R15, R51, R71). -/

namespace Sys2Proof.Machine

/-- `S[i]`, the bit at position `i` of the sequence whose word is `s`: position 0 is the most significant bit (R13). A
position outside the sequence reads as 0; no command asks for one in a state that meets R35 (b). (Log 9) -/
def posBit {n : Nat} (s : BitVec n) (i : Nat) : Bool := s.getMsbD i

/-- `Seq_n(v)`: the sequence of a word, position 0 first (R13). -/
def seqOfWord {n : Nat} (v : BitVec n) : List Bool := (List.range n).map (posBit v)

/-- The number whose binary digits are the sequence, position 0 most significant (R13). -/
def natOfSeq (bits : List Bool) : Nat := bits.foldl (fun acc b => 2 * acc + b.toNat) 0

/-- `Word(S)` for a sequence of length `n` (R13). For a list of another length R13 defines nothing; there the result is the
list's number mod `2^n`, so a shorter list stands right-aligned under zeros: DESIGN CHOICE. (Log 16) -/
def wordOfSeq (n : Nat) (bits : List Bool) : BitVec n := BitVec.ofNat n (natOfSeq bits)

/-- A result travels zero-extended in the 24-bit data of a response (R72, R74). -/
def toData {n : Nat} (v : BitVec n) : Payload := v.setWidth 24

/-- A one-bit result in the data of a response: `data[0]` (R135, R152). -/
def bitData (b : Bool) : Payload := toData (BitVec.ofBool b)

/-- A `SETCLK` index is in range: at most `W_r - 1` (R25, R124). -/
def indexInRange (r : Reg) (idx : Nat) : Bool := decide (idx ≤ r.width - 1)

/-- The sequence of register `r` (R15). -/
def Regs.get (g : Regs) : (r : Reg) → BitVec r.width
  | .x => g.x
  | .y => g.y
  | .z => g.z

/-- Writing the sequence of register `r` whole, the other two kept (R15, R55). -/
def Regs.set (g : Regs) : (r : Reg) → BitVec r.width → Regs
  | .x, v => { g with x := v }
  | .y, v => { g with y := v }
  | .z, v => { g with z := v }

/-- The clocking-bit position of register `r` (R25). -/
def Indices.get (c : Indices) : Reg → Index
  | .x => c.x
  | .y => c.y
  | .z => c.z

/-- Writing the clocking-bit position of register `r` (R124). -/
def Indices.set (c : Indices) (r : Reg) (v : Index) : Indices :=
  match r with
  | .x => { c with x := v }
  | .y => { c with y := v }
  | .z => { c with z := v }

/-- The flag of register `r` (R29). -/
def Marks.get (m : Marks) : Reg → Bool
  | .x => m.x
  | .y => m.y
  | .z => m.z

/-- Setting the flag of register `r` to 1 (R29). -/
def Marks.mark (m : Marks) (r : Reg) : Marks :=
  match r with
  | .x => { m with x := true }
  | .y => { m with y := true }
  | .z => { m with z := true }

/-- All three flags are 1. -/
def Marks.all (m : Marks) : Bool := m.x && m.y && m.z

/-- The configuration in force (R8). -/
def State.cfg (s : State) : Cfg := ⟨s.tap, s.clk⟩

end Sys2Proof.Machine
end

