-- ==== Sys2Proof/Machine/Flags.lean ====
section
/-! DEFINITION. Machine/Flags.lean: the codes of outcomes and flags (R30, R73), the valid conditions of the commands
(R211, R222) and the STATUS word (R33). -/

namespace Sys2Proof.Machine

/-- Outcome code `OK` (R73). -/
def codeOk : BitVec 4 := 0

/-- Outcome code `FOUND` (R73). -/
def codeFound : BitVec 4 := 1

/-- Outcome code `EXHAUSTED` (R73). -/
def codeExhausted : BitVec 4 := 2

/-- The code of an error response (R73, R221). -/
def CmdError.code : CmdError → BitVec 4
  | .illegal => 8
  | .operand => 9
  | .uninit => 10

/-- The 2-bit word of `SRES` (R30). -/
def SearchFlag.code : SearchFlag → BitVec 2
  | .noResult => 0
  | .found => 1
  | .exhausted => 2

/-- What INIT needs: all nine of VTAP, VCLK, VSEED (R134, R222). -/
def State.initReady (s : State) : Bool := s.vtap.all && s.vclk.all && s.vseed.all

/-- What SEARCH needs: all VTAP and VCLK, VSEED[X], VSEED[Z], VCT, VKP; not VSEED[Y] and not GV (R166, R222). -/
def State.searchReady (s : State) : Bool :=
  s.vtap.all && s.vclk.all && s.vseed.x && s.vseed.z && s.vct && s.vkp

/-- `RES` holds a value (R30, R211). -/
def State.resReady (s : State) : Bool := s.sres == .found

/-- The STATUS word (R33), its bits [23:19] zero. -/
def State.status (s : State) : Payload :=
  (0 : BitVec 5) ++ s.ecode ++ BitVec.ofBool s.err ++ s.sres.code ++ BitVec.ofBool s.gv
    ++ BitVec.ofBool s.vkp ++ BitVec.ofBool s.vct
    ++ BitVec.ofBool s.vseed.z ++ BitVec.ofBool s.vseed.y ++ BitVec.ofBool s.vseed.x
    ++ BitVec.ofBool s.vclk.z ++ BitVec.ofBool s.vclk.y ++ BitVec.ofBool s.vclk.x
    ++ BitVec.ofBool s.vtap.z ++ BitVec.ofBool s.vtap.y ++ BitVec.ofBool s.vtap.x

end Sys2Proof.Machine
end

