-- ==== Sys2Proof/Machine/Ops.lean ====
section
/-! DEFINITION. Machine/Ops.lean: the named operations over the state that the commands share: responding (R72), ending in
an error (R224), writing a register with its valid flag (R55), and what the ports do (R57, R250). -/

namespace Sys2Proof.Machine

/-- The response word (R72): `code`, four zero bits, `data`. -/
def rspWord (code : BitVec 4) (data : Payload) : RspWord := code ++ (0 : BitVec 4) ++ data

/-- `respond <Code>(data)` (R15): the command ends with this response. -/
def State.respond (s : State) (code : BitVec 4) (data : Payload) : State :=
  { s with rspLog := s.rspLog ++ [rspWord code data] }

/-- `respond OK(data)` (R73). -/
def State.ok (s : State) (data : Payload) : State := s.respond codeOk data

/-- `raise <Code>` (R15, R31, R224): ERR is set, ECODE takes the code if this is the first error since reset, the response
carries the code with data 0, and nothing else changes. The core goes on with the next command (R229). -/
def State.raise (s : State) (e : CmdError) : State :=
  State.respond { s with err := true, ecode := if s.err then s.ecode else e.code } e.code 0

/-- The write of SETTAP (R106): the tap set and its flag; the generator dies. -/
def State.writeTap (s : State) (r : Reg) (mask : BitVec r.width) : State :=
  { s with tap := s.tap.set r mask, vtap := s.vtap.mark r, gv := false }

/-- The write of SETCLK (R124): the position and its flag; the generator dies. -/
def State.writeClk (s : State) (r : Reg) (idx : Index) : State :=
  { s with clk := s.clk.set r idx, vclk := s.vclk.mark r, gv := false }

/-- The write of SEED (R107): the seed and its flag; the generator goes on. -/
def State.writeSeed (s : State) (r : Reg) (bits : BitVec r.width) : State :=
  { s with seed := s.seed.set r bits, vseed := s.vseed.mark r }

/-- The write of SETCT (R164). -/
def State.writeCt (s : State) (bits : Payload) : State := { s with ct := bits, vct := true }

/-- The write of SETKP (R165). -/
def State.writeKp (s : State) (bits : Payload) : State := { s with kp := bits, vkp := true }

/-- The construction of INIT (R100, R134): the working registers are copies of the seeds, and the generator is valid. -/
def State.construct (s : State) : State := { s with lfsr := s.seed, gv := true }

/-- The working registers after a generator step (R135). -/
def State.moveTo (s : State) (g : Regs) : State := { s with lfsr := g }

/-- What any SEARCH leaves unspecified (R34, R37, R166, R171): the working registers, CAND and IDX become FREE VALUES, and
the model's counter goes on. (Log 4) -/
def State.forgetSearch (s : State) : State :=
  { s with
    lfsr := ⟨Config.freeLfsrX s.freeTick, Config.freeLfsrY s.freeTick, Config.freeLfsrZ s.freeTick⟩
    cand := Config.freeCand s.freeTick
    idx := Config.freeIdx s.freeTick
    freeTick := s.freeTick + 1 }

/-- The end of a SEARCH (R166, R169): GV and BUSY are 0, SRES says how it ended, RES takes the candidate if there is one,
and the response carries the outcome. -/
def State.endSearch (s : State) : SearchOutcome → State
  | .found y =>
    State.respond { s.forgetSearch with gv := false, busy := false, sres := .found, res := y } codeFound (toData y)
  | .exhausted =>
    State.respond { s.forgetSearch with gv := false, busy := false, sres := .exhausted } codeExhausted 0

/-- A read (R211): the value if the valid condition holds, else ERR_UNINIT; no other effect. -/
def State.readOut (s : State) (valid : Bool) (data : Payload) : State :=
  if valid then s.ok data else s.raise .uninit

/-- The host's inputs after one is taken. -/
def State.withInbox (s : State) (rest : List HostInput) : State := { s with inbox := rest }

/-- Reset (R36, R250, R251): every piece of core state at its reset value. The inputs still to come, the responses already
delivered and the model's own counter are not core state and stay. (Log 6) -/
def State.resetCore (s : State) : State :=
  { State.reset with inbox := s.inbox, rspLog := s.rspLog, freeTick := s.freeTick }

/-- Presenting a command word so that it is the next one taken, the core being ready (R57). (Log 7) -/
def State.present (s : State) (w : CmdWord) : State :=
  { s with inbox := .command w :: s.inbox, busy := false }

end Sys2Proof.Machine
end

