-- ==== Sys2Proof/Machine/RegisterStage.lean ====
section
/-! DEFINITION. Machine/RegisterStage.lean: the Register (40_register.md): the clocking primitive, SETTAP and SEED. -/

namespace Sys2Proof.Machine

/-- The exclusive or of the `n` low bits of a word. -/
def parityBelow {w : Nat} (v : BitVec w) : Nat → Bool
  | 0 => false
  | n + 1 => (v.getLsbD n).xor (parityBelow v n)

/-- `parity(w)`: 1 when the word has an odd number of one bits (R14). -/
def parity {w : Nat} (v : BitVec w) : Bool := parityBelow v w

/-- The feedback bit of R101: the exclusive or of the bits at the tap positions, by R103 the parity of state AND mask. -/
def feedback {w : Nat} (s t : BitVec w) : Bool := parity (s &&& t)

/-- `Clock(S, T).S'` (R101) in its word form (R103): the feedback enters at position 0, the rest moves one position on, the
last bit drops. -/
def clockNext {w : Nat} (s t : BitVec w) : BitVec w :=
  ((BitVec.ofBool (feedback s t)).setWidth w <<< (w - 1)) ||| (s >>> 1)

/-- `Clock(S, T).out` (R101): the last bit before the shift. The generator does not use it (R102). -/
def clockOut {w : Nat} (s : BitVec w) : Bool := posBit s (w - 1)

/-- `SETTAP X` (R106). -/
def execSettapX (mask : XWord) (s : State) : Result := .next ((s.writeTap .x mask).ok 0)

/-- `SETTAP Y` (R106). -/
def execSettapY (mask : YWord) (s : State) : Result := .next ((s.writeTap .y mask).ok 0)

/-- `SETTAP Z` (R106). -/
def execSettapZ (mask : ZWord) (s : State) : Result := .next ((s.writeTap .z mask).ok 0)

/-- `SEED X` (R107). -/
def execSeedX (bits : XWord) (s : State) : Result := .next ((s.writeSeed .x bits).ok 0)

/-- `SEED Y` (R107). -/
def execSeedY (bits : YWord) (s : State) : Result := .next ((s.writeSeed .y bits).ok 0)

/-- `SEED Z` (R107). -/
def execSeedZ (bits : ZWord) (s : State) : Result := .next ((s.writeSeed .z bits).ok 0)

end Sys2Proof.Machine
end

