-- ==== Sys2Proof/Machine/MajorityClock.lean ====
section
/-! DEFINITION. Machine/MajorityClock.lean: the Majority Clock (41_majority_clock.md): the majority function, the clocking
bits, the advance rule, and SETCLK. -/

namespace Sys2Proof.Machine

/-- `maj(a, b, c)`: 1 if at least two of the bits are 1 (R120, conflict C1). -/
def maj (a b c : Bool) : Bool := (a && b) || (a && c) || (b && c)

/-- The three clocking bits, all read from the states before any register moves (R121). -/
def clockingBits (c : Cfg) (g : Regs) : Marks :=
  ⟨posBit g.x c.clk.x.toNat, posBit g.y c.clk.y.toNat, posBit g.z c.clk.z.toNat⟩

/-- The majority of the clocking bits (R121, R122). -/
def majorityBit (c : Cfg) (g : Regs) : Bool :=
  maj (clockingBits c g).x (clockingBits c g).y (clockingBits c g).z

/-- Which registers advance in a step: those whose clocking bit equals the majority (R122). -/
def advances (c : Cfg) (g : Regs) : Marks :=
  ⟨(clockingBits c g).x == majorityBit c g, (clockingBits c g).y == majorityBit c g,
    (clockingBits c g).z == majorityBit c g⟩

/-- What the three SETCLK forms do (R124): the range check, then the write. -/
def setClkIndex (r : Reg) (idx : Nat) (s : State) : State :=
  if indexInRange r idx then (s.writeClk r (BitVec.ofNat 5 idx)).ok 0 else s.raise .operand

/-- `SETCLK X` (R124). -/
def execSetclkX (idx : Nat) (s : State) : Result := .next (setClkIndex .x idx s)

/-- `SETCLK Y` (R124). -/
def execSetclkY (idx : Nat) (s : State) : Result := .next (setClkIndex .y idx s)

/-- `SETCLK Z` (R124). -/
def execSetclkZ (idx : Nat) (s : State) : Result := .next (setClkIndex .z idx s)

end Sys2Proof.Machine
end

