-- ==== Sys2Proof/Machine/Generator.lean ====
section
/-! DEFINITION. Machine/Generator.lean: the Keystream Generator (42_keystream_generator.md): Step, Generate, INIT, STEP. -/

namespace Sys2Proof.Machine

/-- The registers after one step (R132): those that advance are clocked, the others keep their state. -/
def moveRegs (c : Cfg) (g : Regs) : Regs :=
  ⟨if (advances c g).x then clockNext g.x c.tap.x else g.x,
    if (advances c g).y then clockNext g.y c.tap.y else g.y,
    if (advances c g).z then clockNext g.z c.tap.z else g.z⟩

/-- The combiner: the exclusive or of the three last bits (R132: `ks = X'[18] xor Y'[21] xor Z'[22]`). -/
def combine (g : Regs) : Bool := ((posBit g.x 18).xor (posBit g.y 21)).xor (posBit g.z 22)

/-- `Step(G)` (R132): the output is read after the moves (R258, conflict C9). -/
def genStep (c : Cfg) (g : Regs) : Regs × Bool := (moveRegs c g, combine (moveRegs c g))

/-- `Generate(G, n)` (R136): the final generator and the keystream of `n` bits. -/
def generate (c : Cfg) (g : Regs) : Nat → Regs × List Bool
  | 0 => (g, [])
  | n + 1 =>
    let first := genStep c g
    let rest := generate c first.1 n
    (rest.1, first.2 :: rest.2)

/-- What STEP and CRYPT share (R135, R152): without a valid generator ERR_UNINIT and no register moves; else one generator
step, answering the keystream bit combined with the data bit `b`. -/
def stepWith (b : Bool) (s : State) : State :=
  if s.gv then (s.moveTo (genStep s.cfg s.lfsr).1).ok (bitData (b.xor (genStep s.cfg s.lfsr).2))
  else s.raise .uninit

/-- `INIT` (R134). -/
def execInit (s : State) : Result := .next (if s.initReady then s.construct.ok 0 else s.raise .uninit)

/-- `STEP` (R135): the keystream bit itself. -/
def execStep (s : State) : Result := .next (stepWith false s)

end Sys2Proof.Machine
end

