-- ==== Sys2Proof/Machine/Cipher.lean ====
section
/-! DEFINITION. Machine/Cipher.lean: the Cipher Transform (43_cipher_transform.md). -/

namespace Sys2Proof.Machine

/-- `Decrypt(bits, ks)` (R150): position by position; keystream bits beyond `bits` are ignored. With too short a keystream
the spec defines nothing, and no command is ever in that case. (Log 15) -/
def decrypt : List Bool → List Bool → List Bool
  | b :: bits, k :: ks => b.xor k :: decrypt bits ks
  | _, _ => []

/-- `CRYPT b` (R152). -/
def execCrypt (b : Bool) (s : State) : Result := .next (stepWith b s)

end Sys2Proof.Machine
end

