-- ==== Sys2Proof/Machine/Recovery.lean ====
section
/-! DEFINITION. Machine/Recovery.lean: the Recovery Search (44_recovery_search.md): the search as a function (R161 to R163),
the control loop the hardware runs (R167 to R169), SETCT, SETKP and SEARCH. -/

namespace Sys2Proof.Machine

/-- `Construct(sx, Seq_22(y), sz)` (R130, R161, R163): a fresh generator for candidate `y`, whose word is `y` itself. -/
def candidateGen (sx : XWord) (y : YWord) (sz : ZWord) : Regs := ⟨sx, y, sz⟩

/-- `Trial` (R163): 24 keystream bits of a fresh generator decrypt the ciphertext prefix to the known plaintext. -/
def trial (c : Cfg) (sx : XWord) (y : YWord) (sz : ZWord) (ct kp : Payload) : Bool :=
  decrypt (seqOfWord ct) (generate c (candidateGen sx y sz) Config.prefixLen).2 == seqOfWord kp

/-- The scan of R161 in ascending order: the first of the `n` candidates from `y` on that passes its trial. -/
def searchFrom (c : Cfg) (sx : XWord) (sz : ZWord) (ct kp : Payload) : Nat → Nat → SearchOutcome
  | 0, _ => .exhausted
  | n + 1, y =>
    if trial c sx (BitVec.ofNat 22 y) sz ct kp then .found (BitVec.ofNat 22 y)
    else searchFrom c sx sz ct kp n (y + 1)

/-- `Search` (R162): all candidates, 0 first; stop at the first hit. -/
def searchAll (c : Cfg) (sx : XWord) (sz : ZWord) (ct kp : Payload) : SearchOutcome :=
  searchFrom c sx sz ct kp Config.nCand 0

/-- `SETCT` (R164). -/
def execSetct (bits : Payload) (s : State) : Result := .next ((s.writeCt bits).ok 0)

/-- `SETKP` (R165). -/
def execSetkp (bits : Payload) (s : State) : Result := .next ((s.writeKp bits).ok 0)

/-- `SEARCH` (R166) as the one indivisible transition it is to the host (R170). (Log 5) -/
def execSearch (s : State) : Result :=
  .next (if s.searchReady then s.endSearch (searchAll s.cfg s.seed.x s.seed.z s.ct s.kp) else s.raise .uninit)

/-- Loop entry (R167). -/
def State.enterSearch (s : State) : State :=
  { s with gv := false, sres := .noResult, busy := true, cand := 0 }

/-- The fresh generator of the trial of the current CAND, and IDX at its start (R168). -/
def State.loadCandidate (s : State) : State :=
  { s with lfsr := candidateGen s.seed.x (s.cand.setWidth 22) s.seed.z, idx := 0 }

/-- `n` turns of the `for` loop of R168, with the working bit `hit`. -/
def trialTurns : Nat → State → Bool → State × Bool
  | 0, s, hit => (s, hit)
  | n + 1, s, hit =>
    trialTurns n { s with lfsr := (genStep s.cfg s.lfsr).1, idx := s.idx + 1 }
      (hit && (posBit s.ct s.idx.toNat).xor (genStep s.cfg s.lfsr).2 == posBit s.kp s.idx.toNat)

/-- One trial and its decision (R168, R169): exhaust at `2^22`; else accept a hit, or go on to the next candidate. A SEARCH
ends as `State.endSearch` says. (Log 5, log 11) -/
def searchTick (s : State) : State :=
  if s.cand = 4194304 then s.endSearch .exhausted
  else if (trialTurns Config.prefixLen s.loadCandidate true).2 then
    (trialTurns Config.prefixLen s.loadCandidate true).1.endSearch (.found (s.cand.setWidth 22))
  else { (trialTurns Config.prefixLen s.loadCandidate true).1 with cand := s.cand + 1 }

/-- `n` trials in a row, fewer if the search ends before (R169). -/
def searchTicks : Nat → State → State
  | 0, s => s
  | n + 1, s => if s.busy then searchTicks n (searchTick s) else s

end Sys2Proof.Machine
end

