-- ==== Sys2Proof/Machine/System.lean ====
section
/-! DEFINITION. Machine/System.lean: the system commands NOP and RD (46_system_commands.md). -/

namespace Sys2Proof.Machine

/-- `NOP` (R210). -/
def execNop (s : State) : Result := .next (s.ok 0)

/-- `RD.STATUS` (R211). -/
def execRdStatus (s : State) : Result := .next (s.readOut true s.status)

/-- `RD.RES` (R211). -/
def execRdRes (s : State) : Result := .next (s.readOut s.resReady (toData s.res))

/-- `RD.TAP X` (R211). -/
def execRdTapX (s : State) : Result := .next (s.readOut s.vtap.x (toData s.tap.x))

/-- `RD.TAP Y` (R211). -/
def execRdTapY (s : State) : Result := .next (s.readOut s.vtap.y (toData s.tap.y))

/-- `RD.TAP Z` (R211). -/
def execRdTapZ (s : State) : Result := .next (s.readOut s.vtap.z (toData s.tap.z))

/-- `RD.CLK X` (R211). -/
def execRdClkX (s : State) : Result := .next (s.readOut s.vclk.x (toData s.clk.x))

/-- `RD.CLK Y` (R211). -/
def execRdClkY (s : State) : Result := .next (s.readOut s.vclk.y (toData s.clk.y))

/-- `RD.CLK Z` (R211). -/
def execRdClkZ (s : State) : Result := .next (s.readOut s.vclk.z (toData s.clk.z))

/-- `RD.SEED X` (R211). -/
def execRdSeedX (s : State) : Result := .next (s.readOut s.vseed.x (toData s.seed.x))

/-- `RD.SEED Y` (R211). -/
def execRdSeedY (s : State) : Result := .next (s.readOut s.vseed.y (toData s.seed.y))

/-- `RD.SEED Z` (R211). -/
def execRdSeedZ (s : State) : Result := .next (s.readOut s.vseed.z (toData s.seed.z))

/-- `RD.LFSR X` (R211). -/
def execRdLfsrX (s : State) : Result := .next (s.readOut s.gv (toData s.lfsr.x))

/-- `RD.LFSR Y` (R211). -/
def execRdLfsrY (s : State) : Result := .next (s.readOut s.gv (toData s.lfsr.y))

/-- `RD.LFSR Z` (R211). -/
def execRdLfsrZ (s : State) : Result := .next (s.readOut s.gv (toData s.lfsr.z))

/-- `RD.CT` (R211). -/
def execRdCt (s : State) : Result := .next (s.readOut s.vct s.ct)

/-- `RD.KP` (R211). -/
def execRdKp (s : State) : Result := .next (s.readOut s.vkp s.kp)

end Sys2Proof.Machine
end

