-- ==== Sys2Proof/Machine/Dispatch.lean ====
section
/-! DEFINITION. Machine/Dispatch.lean: one arm per constructor of Instr. -/

namespace Sys2Proof.Machine

-- Each arm is one direct call of the instruction's own meaning.
def exec (i : Instr) (s : State) : Host.Outcome State Fault Refusal :=
  match i with
  | .nop => Sys2Proof.Machine.execNop s
  | .settapX mask => Sys2Proof.Machine.execSettapX mask s
  | .settapY mask => Sys2Proof.Machine.execSettapY mask s
  | .settapZ mask => Sys2Proof.Machine.execSettapZ mask s
  | .setclkX idx => Sys2Proof.Machine.execSetclkX idx s
  | .setclkY idx => Sys2Proof.Machine.execSetclkY idx s
  | .setclkZ idx => Sys2Proof.Machine.execSetclkZ idx s
  | .seedX bits => Sys2Proof.Machine.execSeedX bits s
  | .seedY bits => Sys2Proof.Machine.execSeedY bits s
  | .seedZ bits => Sys2Proof.Machine.execSeedZ bits s
  | .init => Sys2Proof.Machine.execInit s
  | .step => Sys2Proof.Machine.execStep s
  | .crypt b => Sys2Proof.Machine.execCrypt b s
  | .setct bits => Sys2Proof.Machine.execSetct bits s
  | .setkp bits => Sys2Proof.Machine.execSetkp bits s
  | .search => Sys2Proof.Machine.execSearch s
  | .rdStatus => Sys2Proof.Machine.execRdStatus s
  | .rdRes => Sys2Proof.Machine.execRdRes s
  | .rdTapX => Sys2Proof.Machine.execRdTapX s
  | .rdTapY => Sys2Proof.Machine.execRdTapY s
  | .rdTapZ => Sys2Proof.Machine.execRdTapZ s
  | .rdClkX => Sys2Proof.Machine.execRdClkX s
  | .rdClkY => Sys2Proof.Machine.execRdClkY s
  | .rdClkZ => Sys2Proof.Machine.execRdClkZ s
  | .rdSeedX => Sys2Proof.Machine.execRdSeedX s
  | .rdSeedY => Sys2Proof.Machine.execRdSeedY s
  | .rdSeedZ => Sys2Proof.Machine.execRdSeedZ s
  | .rdLfsrX => Sys2Proof.Machine.execRdLfsrX s
  | .rdLfsrY => Sys2Proof.Machine.execRdLfsrY s
  | .rdLfsrZ => Sys2Proof.Machine.execRdLfsrZ s
  | .rdCt => Sys2Proof.Machine.execRdCt s
  | .rdKp => Sys2Proof.Machine.execRdKp s

end Sys2Proof.Machine
end

