-- ==== Sys2Proof/Machine/Port.lean ====
section
/-! DEFINITION. Machine/Port.lean: what the core does at its ports in one step (R18, R57, R75, R80, R250). -/

namespace Sys2Proof.Machine

/-- An accepted command word (R80, R81): decoded and executed, or answered ERR_ILLEGAL. -/
def runWord (w : CmdWord) (s : State) : Result :=
  match decode w with
  | .ok i => exec i s
  | .error _ => .next (s.raise .illegal)

/-- One step of the core. A reset at the head of the host's inputs acts at once, a search in progress included (R250). A core
that is busy accepts nothing and goes on with its search, one trial a step (R57, R169). Else the next command is accepted and
executed to completion; a command that reset cuts off leaves the reset state and no response (R250). With nothing
presented the core idles, all state retained (R234). (Log 1, log 2, log 5, log 6) -/
def advance (s : State) : Result :=
  match s.inbox with
  | .reset :: rest => .next (s.withInbox rest).resetCore
  | .command w :: rest => if s.busy then .next (searchTick s) else runWord w (s.withInbox rest)
  | .cutOff _ :: rest => if s.busy then .next (searchTick s) else .next (s.withInbox rest).resetCore
  | [] => .next (if s.busy then searchTick s else s)

end Sys2Proof.Machine
end

