-- ==== Sys2Proof/Machine/Step.lean ====
section
/-! DEFINITION. Machine/Step.lean: the step of the machine, and how a word is placed so that the next step runs it. -/

namespace Sys2Proof.Machine

/-- One step (Machine/Port.lean). -/
def step (s : State) : Host.Outcome State Fault Refusal := advance s

/-- `s` with the instruction whose `nbits` low bits are `w`, every higher bit 0, presented so that the next step takes it.
A command is one 32-bit word (R70). (Log 7, log 10) -/
def State.withFetchWord (s : State) (nbits w : Nat) : State := s.present (BitVec.ofNat 32 (w % 2 ^ nbits))

end Sys2Proof.Machine
end

