-- ==== Sys2Proof/Machine/HostProcedures.lean ====
section
/-! DEFINITION. Machine/HostProcedures.lean: the host's command sequences and text conversions (45_full_reconstruction_host.md).
None is an encoding; the step does not use them. -/

namespace Sys2Proof.Machine

/-- `CFG_REF` (R9), as the masks of R192; used by tests only. -/
def cfgRef : Cfg := ⟨⟨0x00027, 0x000003, 0x008007⟩, ⟨8, 10, 10⟩⟩

/-- `CFG_ALT` (R9), as the masks of R192; used by tests only. -/
def cfgAlt : Cfg := ⟨⟨0x10001, 0x010001, 0x200001⟩, ⟨9, 11, 11⟩⟩

/-- The commands of `GEN n` (R190). -/
def genCommands (n : Nat) : List Instr := List.replicate n .step

/-- The commands of `XCRYPT bits` (R191). -/
def xcryptCommands (bits : List Bool) : List Instr := bits.map .crypt

/-- The commands of `LOADCFG cfg` (R192). -/
def loadCfgCommands (c : Cfg) : List Instr :=
  [.settapX c.tap.x, .settapY c.tap.y, .settapZ c.tap.z,
    .setclkX c.clk.x.toNat, .setclkY c.clk.y.toNat, .setclkZ c.clk.z.toNat]

/-- The commands of `RECOVER x_init, z_init, ct, kp` (R193): only the first 24 bits of each stream go to the core. A
host with a shorter stream must not call this; the result the model has there is its own choice. (Log 16) -/
def recoverCommands (sx : XWord) (sz : ZWord) (ct kp : List Bool) : List Instr :=
  [.seedX sx, .seedZ sz, .setct (wordOfSeq 24 (ct.take 24)), .setkp (wordOfSeq 24 (kp.take 24)), .search]

/-- The commands of `DECRYPT_ALL x_init, y_init, z_init, ct` (R194). -/
def decryptAllCommands (g : Regs) (ct : List Bool) : List Instr :=
  [.seedX g.x, .seedY g.y, .seedZ g.z, .init] ++ xcryptCommands ct

/-- The host's inputs that present these commands, in order. -/
def asInputs (is : List Instr) : List HostInput := is.map fun i => .command (encode i)

/-- The host issues the commands one after the other, each after the response to the one before (R57). It would stop at a
fault or a refusal, and there is none (R231). -/
def issueAll : List Instr → State → State
  | [], s => s
  | i :: is, s =>
    match runWord (encode i) s with
    | .next t => issueAll is t
    | .fault _ => s
    | .refused _ => s

/-- The responses between two states of a run. -/
def answers (s t : State) : List RspWord := t.rspLog.drop s.rspLog.length

/-- `data[0]` of a response, the bit a STEP or CRYPT answers (R190, R191). -/
def answerBit (rsp : RspWord) : Bool := rsp.getLsbD 0

/-- The candidate of a `FOUND(y)` response, none for every other response (R73, R193). -/
def foundCandidate (rsp : RspWord) : Option YWord :=
  if rsp.extractLsb' 28 4 = codeFound then some (rsp.extractLsb' 0 22) else none

/-- `RECOVER` (R193): the recovered state of Y, or none as the failure signal. R193 requires a configuration loaded and
streams of at least 24 bits; outside that the result is the model's choice. (Log 16) -/
def recover (sx : XWord) (sz : ZWord) (ct kp : List Bool) (s : State) : State × Option YWord :=
  (issueAll (recoverCommands sx sz ct kp) s,
    (answers s (issueAll (recoverCommands sx sz ct kp) s)).getLast?.bind foundCandidate)

/-- `DECRYPT_ALL` (R194): the bits answered after the four set-up commands. R194 requires a configuration loaded; without
one the bits are those of the error responses, the model's choice. (Log 16) -/
def decryptAll (g : Regs) (ct : List Bool) (s : State) : State × List Bool :=
  (issueAll (decryptAllCommands g ct) s,
    ((answers s (issueAll (decryptAllCommands g ct) s)).drop 4).map answerBit)

/-- `TextToBits(s)` (R196) for the host's character code `code`, which stays open (D20). (Log 12) -/
def textToBits {C : Type} (code : C → BitVec 8) (text : List C) : List Bool :=
  text.flatMap fun ch => seqOfWord (code ch)

/-- `BitsToText(bits)` (R197): groups of eight bits; a shorter last group is dropped. (Log 12) -/
def bitsToText {C : Type} (char : BitVec 8 → C) : List Bool → List C
  | b0 :: b1 :: b2 :: b3 :: b4 :: b5 :: b6 :: b7 :: rest =>
    char (wordOfSeq 8 [b0, b1, b2, b3, b4, b5, b6, b7]) :: bitsToText char rest
  | _ => []

/-- `RECOVER_AND_DECRYPT` (R195): recover Y from the prefix; on failure report it and stop; else decrypt everything. -/
def recoverAndDecrypt {C : Type} (code : C → BitVec 8) (char : BitVec 8 → C) (sx : XWord) (sz : ZWord)
    (known : List C) (ct : List Bool) (s : State) : State × Option (List C) :=
  match recover sx sz ct (textToBits code known) s with
  | (t, none) => (t, none)
  | (t, some y) =>
    ((decryptAll ⟨sx, y, sz⟩ ct t).1, some (bitsToText char (decryptAll ⟨sx, y, sz⟩ ct t).2))

end Sys2Proof.Machine
end

