-- ==== Sys2Proof/Safety.lean ====
section
/-! DEFINITION. Safety.lean: the terms the claims use: the invariant of R35, a clean run (R229), what stays hidden (U1 to U4),
and the premise ClkNotTap (R26). -/

namespace Sys2Proof.Machine

/-- R35 (b): a clocking-bit position that has been written lies inside its register. -/
abbrev State.IndicesInRange (s : State) : Prop :=
  (s.vclk.x = true → s.clk.x.toNat ≤ 18) ∧ (s.vclk.y = true → s.clk.y.toNat ≤ 21)
    ∧ (s.vclk.z = true → s.clk.z.toNat ≤ 22)

/-- R35 (c): a valid generator has all its nine inputs written. -/
abbrev State.GeneratorBacked (s : State) : Prop :=
  s.gv = true → s.vtap.all = true ∧ s.vclk.all = true ∧ s.vseed.all = true

/-- R35 (e): ECODE is 0 without an error and an error's code with one. -/
abbrev State.ErrorCoded (s : State) : Prop :=
  (s.err = false → s.ecode = 0) ∧ (s.err = true → s.ecode = 8 ∨ s.ecode = 9 ∨ s.ecode = 10)

/-- The invariant of R35 between commands. (a) holds by the types, (d) by the type of SRES, (f) is about two states; (b),
(c), (e) and (g) are the parts below. -/
abbrev State.Inv (s : State) : Prop :=
  s.IndicesInRange ∧ s.GeneratorBacked ∧ s.ErrorCoded ∧ s.busy = false

/-- A run is clean when no error has been answered since reset (R229). -/
abbrev State.Clean (s : State) : Prop := s.err = false

/-- The premise `ClkNotTap(Cfg)` (R26): no clocking bit is a tap of its register. -/
abbrev Cfg.ClkNotTap (c : Cfg) : Prop :=
  posBit c.tap.x c.clk.x.toNat = false ∧ posBit c.tap.y c.clk.y.toNat = false ∧ posBit c.tap.z c.clk.z.toNat = false

/-- Two states the host cannot tell apart: equal in all flags, inputs and responses, and equal in a content register
wherever the flag that guards it says it holds a value (R36, U1 to U4). CAND, IDX and the model's counter are left out. -/
structure Agree (s t : State) : Prop where
  gv : s.gv = t.gv
  vtap : s.vtap = t.vtap
  vclk : s.vclk = t.vclk
  vseed : s.vseed = t.vseed
  vct : s.vct = t.vct
  vkp : s.vkp = t.vkp
  sres : s.sres = t.sres
  err : s.err = t.err
  ecode : s.ecode = t.ecode
  busy : s.busy = t.busy
  inbox : s.inbox = t.inbox
  rspLog : s.rspLog = t.rspLog
  lfsr : s.gv = true → s.lfsr = t.lfsr
  tapX : s.vtap.x = true → s.tap.x = t.tap.x
  tapY : s.vtap.y = true → s.tap.y = t.tap.y
  tapZ : s.vtap.z = true → s.tap.z = t.tap.z
  clkX : s.vclk.x = true → s.clk.x = t.clk.x
  clkY : s.vclk.y = true → s.clk.y = t.clk.y
  clkZ : s.vclk.z = true → s.clk.z = t.clk.z
  seedX : s.vseed.x = true → s.seed.x = t.seed.x
  seedY : s.vseed.y = true → s.seed.y = t.seed.y
  seedZ : s.vseed.z = true → s.seed.z = t.seed.z
  ct : s.vct = true → s.ct = t.ct
  kp : s.vkp = true → s.kp = t.kp
  res : s.sres = .found → s.res = t.res

/-- The state after a command that only answers `rsp`. -/
def State.answered (s : State) (rsp : RspWord) : State := { s with rspLog := s.rspLog ++ [rsp] }

/-- The state after a command that ends in the error `code`, as R224 and R31 say it: ERR is 1, ECODE is the first error's
code, the response has `data` = 0, and nothing else changes. -/
def State.afterError (s : State) (code : BitVec 4) : State :=
  { s with err := true, ecode := if s.err then s.ecode else code, rspLog := s.rspLog ++ [code ++ (0 : BitVec 28)] }

/-- The outcome code of a response (R72). -/
def rspCode (rsp : RspWord) : BitVec 4 := rsp.extractLsb' 28 4

/-- The word has an odd number of one bits (R14). -/
def oddOnes {n : Nat} (v : BitVec n) : Bool := (List.range n).countP v.getLsbD % 2 == 1

/-- `y` is the least candidate that passes its trial (R162). -/
def FirstHit (c : Cfg) (sx : XWord) (sz : ZWord) (ct kp : Payload) (y : YWord) : Prop :=
  trial c sx y sz ct kp = true ∧ ∀ y' : YWord, y'.toNat < y.toNat → trial c sx y' sz ct kp = false

end Sys2Proof.Machine
end

