-- ==== Sys2Proof/Certificates/Slice0/Obligations.lean ====
section
/-! DEFINITION. Certificates/Slice0/Obligations.lean: the statements for the provers, from the numbered rules of the spec. -/

open Sys2Proof Sys2Proof.Machine

/-- A step with a command word at the head of the host's inputs runs the decoded command, and only the input is taken besides;
a word without a command answers ERR_ILLEGAL (R57, R80, R81). -/
def Obligations.StepRunsDecodedCommand : Prop :=
  ∀ (s : State) (w : CmdWord) (rest : List HostInput), s.inbox = .command w :: rest → s.busy = false →
    (∀ i, decode w = .ok i → step s = exec i { s with inbox := rest }) ∧
    (decode w = .error .noRow → step s = .next (State.afterError { s with inbox := rest } 8))

/-- A step without a command to take: with nothing presented an idle core keeps all its state (R234), and a core in the
middle of a search goes on with it and takes nothing (R57, R169); the model's reading, log 2 and log 5. -/
def Obligations.IdleAndBusySteps : Prop :=
  ∀ s : State,
    (s.inbox = [] → s.busy = false → step s = .next s) ∧
    (s.busy = true → (∀ rest, s.inbox ≠ .reset :: rest) → step s = .next (searchTick s) ∧
      (searchTick s).inbox = s.inbox)

/-- Reset, between commands, in the middle of a search, or cutting a command off (R250, R251): every flag the spec gives a
reset value has it, no response is produced, and the input is taken. The contents of the other registers are not stated. -/
def Obligations.ResetInputClears : Prop :=
  ∀ (s : State) (rest : List HostInput),
    (s.inbox = .reset :: rest ∨ (s.busy = false ∧ ∃ w, s.inbox = .cutOff w :: rest)) →
    ∃ t, step s = .next t ∧ t.inbox = rest ∧ t.rspLog = s.rspLog ∧
      t.vtap = ⟨false, false, false⟩ ∧ t.vclk = ⟨false, false, false⟩ ∧ t.vseed = ⟨false, false, false⟩ ∧
      t.vct = false ∧ t.vkp = false ∧ t.gv = false ∧ t.sres = .noResult ∧ t.err = false ∧ t.ecode = 0 ∧
      t.busy = false ∧ t.status = 0

/-- The state after reset: the values R36 gives. -/
def Obligations.ResetStateAsTabled : Prop :=
  State.reset.gv = false ∧ State.reset.vtap = ⟨false, false, false⟩ ∧ State.reset.vclk = ⟨false, false, false⟩ ∧
    State.reset.vseed = ⟨false, false, false⟩ ∧ State.reset.vct = false ∧ State.reset.vkp = false ∧
    State.reset.sres = .noResult ∧ State.reset.err = false ∧ State.reset.ecode = 0 ∧ State.reset.status = 0 ∧
    State.reset.busy = false

/-- The invariant of R35 holds after reset. -/
def Obligations.ResetMeetsInvariant : Prop := State.reset.Inv

/-- Every step keeps the invariant of R35. -/
def Obligations.StepKeepsInvariant : Prop :=
  ∀ s t : State, s.Inv → step s = .next t → t.Inv

/-- A few words, written out from the table of R77, and the commands they stand for. -/
def Obligations.TabledWordsDecode : Prop :=
  decode 0x00000000 = .ok .nop ∧ decode 0x14000003 = .ok (.settapY 0x3) ∧ decode 0x20000013 = .ok (.setclkX 19) ∧
    decode 0x2800000A = .ok (.setclkZ 10) ∧ decode 0x34000005 = .ok (.seedY 0x5) ∧ decode 0x40000000 = .ok .init ∧
    decode 0x50000000 = .ok .step ∧ decode 0x60000001 = .ok (.crypt true) ∧ decode 0x70086921 = .ok (.setct 0x086921) ∧
    decode 0x80486921 = .ok (.setkp 0x486921) ∧ decode 0x90000000 = .ok .search ∧ decode 0xA8000003 = .ok .rdClkZ ∧
    decode 0xA4000005 = .ok .rdLfsrY

/-- Decoding the word of a well-formed command gives the command back, every operand at every value. -/
def Obligations.DecodeOfEncode : Prop :=
  ∀ i : Instr, i.wellFormed = true → decode (encode i) = .ok i

/-- A word decodes only to a well-formed command whose word it is: no bit of a legal word is ignored (R82). -/
def Obligations.EncodeOfDecode : Prop :=
  ∀ (w : CmdWord) (i : Instr), decode w = .ok i → i.wellFormed = true ∧ encode i = w

/-- The opcode map has 32 rows and no word matches two of them (R77). -/
def Obligations.RowsPairwiseDisjoint : Prop :=
  rows.length = 32 ∧ ∀ w : CmdWord, (rows.filter fun r => r.accepts w).length ≤ 1

/-- The illegal words are exactly those R82 lists, by field, and each changes nothing but ERR and ECODE and answers ERR_ILLEGAL. -/
def Obligations.IllegalWordsExactly : Prop :=
  ∀ w : CmdWord,
    (decode w = .error .noRow ↔
      (11 ≤ (cmdOp w).toNat ∨ cmdSel w = 3 ∨ cmdRsv w ≠ 0 ∨
        ((cmdOp w ∈ [0, 4, 5, 6, 7, 8, 9] ∨ (cmdOp w = 10 ∧ (cmdImm w).toNat % 8 ∈ [0, 1, 6, 7])) ∧ cmdSel w ≠ 0) ∨
        (cmdOp w ∈ [0, 4, 5, 9] ∧ cmdImm w ≠ 0) ∨
        (cmdOp w ∈ [1, 3] ∧ ((cmdSel w = 0 ∧ 2 ^ 19 ≤ (cmdImm w).toNat) ∨ (cmdSel w = 1 ∧ 2 ^ 22 ≤ (cmdImm w).toNat) ∨
          (cmdSel w = 2 ∧ 2 ^ 23 ≤ (cmdImm w).toNat))) ∨
        (cmdOp w = 2 ∧ 32 ≤ (cmdImm w).toNat) ∨ (cmdOp w = 6 ∧ 2 ≤ (cmdImm w).toNat) ∨
        (cmdOp w = 10 ∧ 8 ≤ (cmdImm w).toNat))) ∧
    (decode w = .error .noRow → ∀ s : State, runWord w s = .next (s.afterError 8))

/-- Sequences and words (R13): position i is the bit of weight `2^(n-1-i)`, and the two conversions undo each other. -/
def Obligations.SequenceWordRoundTrip : Prop :=
  (∀ (n : Nat) (v : BitVec n), (seqOfWord v).length = n ∧ (∀ i < n, (seqOfWord v)[i]? = some (v.getLsbD (n - 1 - i))) ∧
    wordOfSeq n (seqOfWord v) = v) ∧
  ∀ bits : List Bool, seqOfWord (wordOfSeq bits.length bits) = bits ∧
    ∀ i < bits.length, bits[i]? = some ((wordOfSeq bits.length bits).getLsbD (bits.length - 1 - i))

/-- One clock of a register in sequence form (R101): the feedback, the exclusive or of the bits at the tap positions, enters at
position 0, every other position takes its predecessor's bit, and `out` is the last bit before the shift. -/
def Obligations.ClockShiftsSequence : Prop :=
  ∀ (w : Nat) (s t : BitVec w), 0 < w →
    posBit (clockNext s t) 0 =
      ((List.range w).filter (posBit t)).foldl (fun acc i => acc.xor (posBit s i)) false ∧
    (∀ i, 1 ≤ i → i < w → posBit (clockNext s t) i = posBit s (i - 1)) ∧
    clockOut s = posBit s (w - 1)

/-- One clock of a register in word form (R103): parity of state AND mask on top, the rest shifted right by one. -/
def Obligations.ClockWordForm : Prop :=
  ∀ (w : Nat) (s t : BitVec w), 0 < w →
    (clockNext s t).toNat = (if oddOnes (s &&& t) then 2 ^ (w - 1) else 0) + s.toNat / 2 ∧
    clockOut s = s.getLsbD 0

/-- Properties of Clock (R104): linear over exclusive or; the all-zero state is a fixed point; with the empty tap set `w`
advances leave all zeros; invertible exactly when the last position is a tap; a tap at the last position alone feeds back
`out`; a tap at position 0 alone feeds back the bit the previous advance inserted. -/
def Obligations.ClockProperties : Prop :=
  ∀ (w : Nat), 0 < w → ∀ t : BitVec w,
    (∀ a b : BitVec w, clockNext (a ^^^ b) t = clockNext a t ^^^ clockNext b t) ∧
    clockNext 0 t = 0 ∧
    (∀ a : BitVec w, (fun v => clockNext v (0 : BitVec w))^[w] a = 0) ∧
    (Function.Injective (fun v => clockNext v t) ↔ posBit t (w - 1) = true) ∧
    (∀ a : BitVec w, posBit (clockNext a 1) 0 = clockOut a) ∧
    (∀ a : BitVec w, posBit (clockNext (clockNext a t) (1 <<< (w - 1))) 0 = posBit (clockNext a t) 0)

/-- Under the premise ClkNotTap (R26) no register's feedback depends on its own clocking bit. -/
def Obligations.ClockingBitNotFedBack : Prop :=
  ∀ (c : Cfg) (g h : Regs), c.ClkNotTap →
    (∀ i, i ≠ c.clk.x.toNat → posBit g.x i = posBit h.x i) → (∀ i, i ≠ c.clk.y.toNat → posBit g.y i = posBit h.y i) →
    (∀ i, i ≠ c.clk.z.toNat → posBit g.z i = posBit h.z i) →
    feedback g.x c.tap.x = feedback h.x c.tap.x ∧ feedback g.y c.tap.y = feedback h.y c.tap.y ∧
      feedback g.z c.tap.z = feedback h.z c.tap.z

/-- SETTAP (R106): the mask and its flag are written, the generator dies, OK(0) is answered, all else is unchanged, of the
working registers, which GV = 0 leaves without contents (R23), nothing being said; the word; and a word of SETTAP's opcode with selector 3 or a bit above the register's width is illegal. -/
def Obligations.SettapWritesTapSet : Prop :=
  ∀ s : State,
    (∀ m, (∃ t, exec (.settapX m) s = .next t ∧ t = { s with
        tap := ⟨m, s.tap.y, s.tap.z⟩, vtap := ⟨true, s.vtap.y, s.vtap.z⟩, gv := false, lfsr := t.lfsr, rspLog := s.rspLog ++ [0] }) ∧
      encode (.settapX m) = 0x10000000 ||| m.setWidth 32) ∧
    (∀ m, (∃ t, exec (.settapY m) s = .next t ∧ t = { s with
        tap := ⟨s.tap.x, m, s.tap.z⟩, vtap := ⟨s.vtap.x, true, s.vtap.z⟩, gv := false, lfsr := t.lfsr, rspLog := s.rspLog ++ [0] }) ∧
      encode (.settapY m) = 0x14000000 ||| m.setWidth 32) ∧
    (∀ m, (∃ t, exec (.settapZ m) s = .next t ∧ t = { s with
        tap := ⟨s.tap.x, s.tap.y, m⟩, vtap := ⟨s.vtap.x, s.vtap.y, true⟩, gv := false, lfsr := t.lfsr, rspLog := s.rspLog ++ [0] }) ∧
      encode (.settapZ m) = 0x18000000 ||| m.setWidth 32) ∧
    (∀ w : CmdWord, cmdOp w = 1 →
      (cmdSel w = 3 ∨ (cmdSel w = 0 ∧ 2 ^ 19 ≤ (cmdImm w).toNat) ∨ (cmdSel w = 1 ∧ 2 ^ 22 ≤ (cmdImm w).toNat) ∨
        (cmdSel w = 2 ∧ 2 ^ 23 ≤ (cmdImm w).toNat)) → runWord w s = .next (s.afterError 8))

/-- SEED (R107): the seed and its flag are written, OK(0) is answered, all else is unchanged, GV and the working registers
too; the word; and a word of SEED's opcode with a bit above the register's width is illegal. -/
def Obligations.SeedWritesSeed : Prop :=
  ∀ s : State,
    (∀ b, exec (.seedX b) s = .next { s with
        seed := ⟨b, s.seed.y, s.seed.z⟩, vseed := ⟨true, s.vseed.y, s.vseed.z⟩, rspLog := s.rspLog ++ [0] } ∧
      encode (.seedX b) = 0x30000000 ||| b.setWidth 32) ∧
    (∀ b, exec (.seedY b) s = .next { s with
        seed := ⟨s.seed.x, b, s.seed.z⟩, vseed := ⟨s.vseed.x, true, s.vseed.z⟩, rspLog := s.rspLog ++ [0] } ∧
      encode (.seedY b) = 0x34000000 ||| b.setWidth 32) ∧
    (∀ b, exec (.seedZ b) s = .next { s with
        seed := ⟨s.seed.x, s.seed.y, b⟩, vseed := ⟨s.vseed.x, s.vseed.y, true⟩, rspLog := s.rspLog ++ [0] } ∧
      encode (.seedZ b) = 0x38000000 ||| b.setWidth 32) ∧
    (∀ w : CmdWord, cmdOp w = 3 →
      ((cmdSel w = 0 ∧ 2 ^ 19 ≤ (cmdImm w).toNat) ∨ (cmdSel w = 1 ∧ 2 ^ 22 ≤ (cmdImm w).toNat) ∨
        (cmdSel w = 2 ∧ 2 ^ 23 ≤ (cmdImm w).toNat)) → runWord w s = .next (s.afterError 8))

/-- The full table of maj (R120), and that it says "at least two of the three bits are 1". -/
def Obligations.MajorityTruthTable : Prop :=
  maj false false false = false ∧ maj false false true = false ∧ maj false true false = false ∧ maj false true true = true ∧
    maj true false false = false ∧ maj true false true = true ∧ maj true true false = true ∧ maj true true true = true ∧
    ∀ a b c : Bool, maj a b c = true ↔ 2 ≤ a.toNat + b.toNat + c.toNat

/-- Who advances in a step (R121, R122, R123): if the three clocking bits agree all three registers advance, else exactly
the two that agree, and the odd one keeps its state. -/
def Obligations.AgreeingRegistersAdvance : Prop :=
  ∀ (c : Cfg) (g : Regs) (a b d : Bool),
    a = posBit g.x c.clk.x.toNat → b = posBit g.y c.clk.y.toNat → d = posBit g.z c.clk.z.toNat →
    (a = b → b = d → (genStep c g).1 = ⟨clockNext g.x c.tap.x, clockNext g.y c.tap.y, clockNext g.z c.tap.z⟩) ∧
    (a = b → b ≠ d → (genStep c g).1 = ⟨clockNext g.x c.tap.x, clockNext g.y c.tap.y, g.z⟩) ∧
    (a = d → a ≠ b → (genStep c g).1 = ⟨clockNext g.x c.tap.x, g.y, clockNext g.z c.tap.z⟩) ∧
    (b = d → a ≠ b → (genStep c g).1 = ⟨g.x, clockNext g.y c.tap.y, clockNext g.z c.tap.z⟩)

/-- The word form of a generator step (R133), the clocking-bit positions being in range as R25 requires. -/
def Obligations.GeneratorStepWordForm : Prop :=
  ∀ (c : Cfg) (g : Regs), c.clk.x.toNat ≤ 18 → c.clk.y.toNat ≤ 21 → c.clk.z.toNat ≤ 22 →
    ∀ a b d m : Bool, a = g.x.getLsbD (18 - c.clk.x.toNat) → b = g.y.getLsbD (21 - c.clk.y.toNat) →
      d = g.z.getLsbD (22 - c.clk.z.toNat) → m = maj a b d →
      (genStep c g).1.x.toNat =
        (if a = m then (if oddOnes (g.x &&& c.tap.x) then 2 ^ 18 else 0) + g.x.toNat / 2 else g.x.toNat) ∧
      (genStep c g).1.y.toNat =
        (if b = m then (if oddOnes (g.y &&& c.tap.y) then 2 ^ 21 else 0) + g.y.toNat / 2 else g.y.toNat) ∧
      (genStep c g).1.z.toNat =
        (if d = m then (if oddOnes (g.z &&& c.tap.z) then 2 ^ 22 else 0) + g.z.toNat / 2 else g.z.toNat) ∧
      (genStep c g).2 = (((genStep c g).1.x.getLsbD 0).xor ((genStep c g).1.y.getLsbD 0)).xor ((genStep c g).1.z.getLsbD 0)

/-- The keystream bit of a step in terms of the registers before it (R132): a register that advances contributes its old bit
at position `W_r - 2`, one that holds its old bit at position `W_r - 1`. -/
def Obligations.OutputReadAfterMoves : Prop :=
  ∀ (c : Cfg) (g : Regs),
    (genStep c g).2 =
      ((if (advances c g).x then posBit g.x 17 else posBit g.x 18).xor
        (if (advances c g).y then posBit g.y 20 else posBit g.y 21)).xor
        (if (advances c g).z then posBit g.z 21 else posBit g.z 22)

/-- SETCLK (R124): up to `W_r - 1` the position and its flag are written, the generator dies, OK(0) is answered, all else is
unchanged, of the working registers, which GV = 0 leaves without contents (R23), nothing being said; above it the command
ends with ERR_OPERAND; and the word. -/
def Obligations.SetclkWritesOrFails : Prop :=
  ∀ (s : State) (idx : Nat),
    (idx ≤ 18 → ∃ t, exec (.setclkX idx) s = .next t ∧ t = { s with
      clk := ⟨BitVec.ofNat 5 idx, s.clk.y, s.clk.z⟩, vclk := ⟨true, s.vclk.y, s.vclk.z⟩, gv := false,
      lfsr := t.lfsr, rspLog := s.rspLog ++ [0] }) ∧
    (18 < idx → exec (.setclkX idx) s = .next (s.afterError 9)) ∧
    (idx ≤ 21 → ∃ t, exec (.setclkY idx) s = .next t ∧ t = { s with
      clk := ⟨s.clk.x, BitVec.ofNat 5 idx, s.clk.z⟩, vclk := ⟨s.vclk.x, true, s.vclk.z⟩, gv := false,
      lfsr := t.lfsr, rspLog := s.rspLog ++ [0] }) ∧
    (21 < idx → exec (.setclkY idx) s = .next (s.afterError 9)) ∧
    (idx ≤ 22 → ∃ t, exec (.setclkZ idx) s = .next t ∧ t = { s with
      clk := ⟨s.clk.x, s.clk.y, BitVec.ofNat 5 idx⟩, vclk := ⟨s.vclk.x, s.vclk.y, true⟩, gv := false,
      lfsr := t.lfsr, rspLog := s.rspLog ++ [0] }) ∧
    (22 < idx → exec (.setclkZ idx) s = .next (s.afterError 9)) ∧
    (idx < 32 → encode (.setclkX idx) = 0x20000000 ||| BitVec.ofNat 32 idx ∧
      encode (.setclkY idx) = 0x24000000 ||| BitVec.ofNat 32 idx ∧
      encode (.setclkZ idx) = 0x28000000 ||| BitVec.ofNat 32 idx)

/-- INIT (R134): with all nine flags the working registers become copies of the seeds and GV is 1, all else unchanged; else
ERR_UNINIT; and two INITs with no seed write between construct equal generators. -/
def Obligations.InitConstructsGenerator : Prop :=
  ∀ s : State,
    (s.vtap = ⟨true, true, true⟩ → s.vclk = ⟨true, true, true⟩ → s.vseed = ⟨true, true, true⟩ →
      ∃ t, exec .init s = .next t ∧ t = { s with lfsr := s.seed, gv := true, rspLog := s.rspLog ++ [0] } ∧
        exec .init t = .next (t.answered 0)) ∧
    (¬ (s.vtap = ⟨true, true, true⟩ ∧ s.vclk = ⟨true, true, true⟩ ∧ s.vseed = ⟨true, true, true⟩) →
      exec .init s = .next (s.afterError 10)) ∧
    encode .init = 0x40000000

/-- STEP (R135): with GV the generator makes one step and the keystream bit is answered, all else unchanged; else ERR_UNINIT. -/
def Obligations.StepDrawsKeystreamBit : Prop :=
  ∀ s : State,
    (s.gv = true → exec .step s = .next { s with
      lfsr := (genStep ⟨s.tap, s.clk⟩ s.lfsr).1,
      rspLog := s.rspLog ++ [if (genStep ⟨s.tap, s.clk⟩ s.lfsr).2 then 1 else 0] }) ∧
    (s.gv = false → exec .step s = .next (s.afterError 10)) ∧
    encode .step = 0x50000000

/-- CRYPT (R152): with GV the generator makes one step and the data bit combined with the keystream bit is answered, all else
unchanged; else ERR_UNINIT; and `CRYPT 0` is exactly STEP. -/
def Obligations.CryptCombinesBit : Prop :=
  ∀ (s : State) (b : Bool),
    (s.gv = true → exec (.crypt b) s = .next { s with
      lfsr := (genStep ⟨s.tap, s.clk⟩ s.lfsr).1,
      rspLog := s.rspLog ++ [if b != (genStep ⟨s.tap, s.clk⟩ s.lfsr).2 then 1 else 0] }) ∧
    (s.gv = false → exec (.crypt b) s = .next (s.afterError 10)) ∧
    exec (.crypt false) s = exec .step s ∧
    encode (.crypt b) = if b then 0x60000001 else 0x60000000

/-- Generate (R136): nothing for 0 steps, a step and then the rest, exactly `n` bits, and a keystream may be fetched in pieces. -/
def Obligations.GenerateSplits : Prop :=
  ∀ (c : Cfg) (g : Regs),
    generate c g 0 = (g, []) ∧
    (∀ n, generate c g (n + 1) =
      ((generate c (genStep c g).1 n).1, (genStep c g).2 :: (generate c (genStep c g).1 n).2)) ∧
    (∀ n, (generate c g n).2.length = n) ∧
    (∀ n m, generate c g (n + m) =
      ((generate c (generate c g n).1 m).1, (generate c g n).2 ++ (generate c (generate c g n).1 m).2))

/-- GEN n (R190): `n` STEP words answer `Generate(G, n).ks` bit by bit and leave `Generate(G, n).G`; without a generator each
of them answers ERR_UNINIT. -/
def Obligations.GenYieldsKeystream : Prop :=
  ∀ (n : Nat) (s : State) (rest : List HostInput), s.inbox = List.replicate n (.command 0x50000000) ++ rest →
    s.busy = false →
    (s.gv = true → Host.Core.run core n s = .next { s with
      inbox := rest, lfsr := (generate ⟨s.tap, s.clk⟩ s.lfsr n).1,
      rspLog := s.rspLog ++ (generate ⟨s.tap, s.clk⟩ s.lfsr n).2.map fun k => if k then 1 else 0 }) ∧
    (s.gv = false → ∃ t, Host.Core.run core n s = .next t ∧ t.lfsr = s.lfsr ∧
      t.rspLog = s.rspLog ++ List.replicate n 0xA0000000)

/-- XCRYPT bits (R191): the CRYPT words answer `Decrypt(bits, Generate(G, n).ks)` bit by bit. -/
def Obligations.XcryptYieldsDecrypt : Prop :=
  ∀ (bits : List Bool) (s : State) (rest : List HostInput),
    s.inbox = bits.map (fun b => .command (if b then 0x60000001 else 0x60000000)) ++ rest → s.busy = false →
    s.gv = true →
    Host.Core.run core bits.length s = .next { s with
      inbox := rest, lfsr := (generate ⟨s.tap, s.clk⟩ s.lfsr bits.length).1,
      rspLog := s.rspLog ++
        (decrypt bits (generate ⟨s.tap, s.clk⟩ s.lfsr bits.length).2).map fun k => if k then 1 else 0 }

/-- Decrypt (R150, R151): position by position, keystream bits beyond the data ignored, self-inverse; and it hits a target
exactly when the keystream starts with data xor target. -/
def Obligations.DecryptIsInvolution : Prop :=
  ∀ bits ks : List Bool, bits.length ≤ ks.length →
    (decrypt bits ks).length = bits.length ∧
    (∀ (j : Nat) (b k : Bool), bits[j]? = some b → ks[j]? = some k → (decrypt bits ks)[j]? = some (b != k)) ∧
    decrypt (decrypt bits ks) ks = bits ∧
    (∀ more, decrypt bits (ks ++ more) = decrypt bits ks) ∧
    (∀ target : List Bool, target.length = bits.length →
      (decrypt bits ks = target ↔ ks.take bits.length = decrypt bits target))

/-- Search (R161, R162): the answer is the least candidate that passes its trial, and exhaustion says that none does. -/
def Obligations.SearchFindsLeastCandidate : Prop :=
  ∀ (c : Cfg) (sx : XWord) (sz : ZWord) (ct kp : Payload),
    (∀ y, searchAll c sx sz ct kp = .found y ↔
      trial c sx y sz ct kp = true ∧ ∀ y' : YWord, y'.toNat < y.toNat → trial c sx y' sz ct kp = false) ∧
    (searchAll c sx sz ct kp = .exhausted ↔ ∀ y, trial c sx y sz ct kp = false)

/-- Trial (R163): it holds exactly when the decrypted prefix agrees with the known plaintext at every `j` in 0 .. 23, that is
when `ks[j] == ct[j] xor kp[j]` there, `ks` being the 24 keystream bits of a fresh generator; so it depends on the prefixes
through `ct xor kp` only. -/
def Obligations.TrialIsPrefixMatch : Prop :=
  ∀ (c : Cfg) (sx : XWord) (y : YWord) (sz : ZWord) (ct kp : Payload),
    (trial c sx y sz ct kp = true ↔
      ∀ j < 24, (decrypt (seqOfWord ct) (generate c ⟨sx, y, sz⟩ 24).2)[j]? = some (kp.getLsbD (23 - j))) ∧
    (trial c sx y sz ct kp = true ↔
      ∀ j < 24, (generate c ⟨sx, y, sz⟩ 24).2[j]? = some ((ct ^^^ kp).getLsbD (23 - j))) ∧
    trial c sx y sz ct kp = trial c sx y sz (ct ^^^ kp) 0

/-- SEARCH (R166): with its inputs written it answers FOUND(y) for the least passing candidate and keeps it in RES, or
EXHAUSTED; GV is 0 after it; nothing else changes but the unspecified registers, RES among them when nothing is found (R30);
else ERR_UNINIT. -/
def Obligations.SearchCommandOutcome : Prop :=
  ∀ s : State,
    (s.vtap = ⟨true, true, true⟩ → s.vclk = ⟨true, true, true⟩ → s.vseed.x = true → s.vseed.z = true →
      s.vct = true → s.vkp = true →
      ∃ t, exec .search s = .next t ∧
        t = { s with
          lfsr := t.lfsr, gv := false, sres := t.sres, res := t.res, cand := t.cand, idx := t.idx,
          busy := false, rspLog := t.rspLog, freeTick := t.freeTick } ∧
        ((∃ y, FirstHit ⟨s.tap, s.clk⟩ s.seed.x s.seed.z s.ct s.kp y ∧ t.sres = .found ∧ t.res = y ∧
            t.rspLog = s.rspLog ++ [0x10000000 ||| y.setWidth 32]) ∨
          ((∀ y, trial ⟨s.tap, s.clk⟩ s.seed.x y s.seed.z s.ct s.kp = false) ∧ t.sres = .exhausted ∧
            t.rspLog = s.rspLog ++ [0x20000000]))) ∧
    (¬ (s.vtap = ⟨true, true, true⟩ ∧ s.vclk = ⟨true, true, true⟩ ∧ s.vseed.x = true ∧ s.vseed.z = true ∧
        s.vct = true ∧ s.vkp = true) → exec .search s = .next (s.afterError 10)) ∧
    encode .search = 0x90000000

/-- A search changes none of its inputs (R56). -/
def Obligations.SearchKeepsInputs : Prop :=
  ∀ s t : State, exec .search s = .next t →
    t.seed.x = s.seed.x ∧ t.seed.z = s.seed.z ∧ t.ct = s.ct ∧ t.kp = s.kp ∧ t.tap = s.tap ∧ t.clk = s.clk ∧
      t.seed.y = s.seed.y

/-- The control loop of R167 to R169 computes SEARCH (R173): it ends in the state the command gives, after exactly `y + 1`
trials when the answer is FOUND(y), and when it exhausts after all `2^22` candidates. One trial a turn is the model's
granularity (log 5), and both ends hold the same free values in LFSR, CAND and IDX (log 4). -/
def Obligations.ControlLoopComputesSearch : Prop :=
  ∀ s : State, s.searchReady = true →
    (∀ y, searchAll ⟨s.tap, s.clk⟩ s.seed.x s.seed.z s.ct s.kp = .found y →
      (∀ n ≤ y.toNat, (searchTicks n s.enterSearch).busy = true) ∧
      exec .search s = .next (searchTicks (y.toNat + 1) s.enterSearch)) ∧
    (searchAll ⟨s.tap, s.clk⟩ s.seed.x s.seed.z s.ct s.kp = .exhausted →
      (∀ n ≤ 4194304, (searchTicks n s.enterSearch).busy = true ∧ (searchTicks n s.enterSearch).cand.toNat = n) ∧
      exec .search s = .next (searchTicks (4194304 + 1) s.enterSearch))

/-- The property the document states (R174): the search returns exactly `y0` whenever `y0` is the lowest-numbered candidate
that produces a prefix match, the ciphertext being made with `y0`. -/
def Obligations.SearchRecoversLeastTrueState : Prop :=
  ∀ (c : Cfg) (sx : XWord) (sz : ZWord) (kp : Payload) (y0 : YWord),
    (∀ y : YWord, y.toNat < y0.toNat → (generate c ⟨sx, y, sz⟩ 24).2 ≠ (generate c ⟨sx, y0, sz⟩ 24).2) →
    searchAll c sx sz (wordOfSeq 24 (decrypt (seqOfWord kp) (generate c ⟨sx, y0, sz⟩ 24).2)) kp = .found y0

/-- SETCT and SETKP (R164, R165): the prefix and its flag are written, OK(0) is answered, all else is unchanged; the word; and
the operand of three 8-bit characters. -/
def Obligations.PrefixWrites : Prop :=
  ∀ (s : State) (p : Payload),
    exec (.setct p) s = .next { s with ct := p, vct := true, rspLog := s.rspLog ++ [0] } ∧
    exec (.setkp p) s = .next { s with kp := p, vkp := true, rspLog := s.rspLog ++ [0] } ∧
    encode (.setct p) = 0x70000000 ||| p.setWidth 32 ∧ encode (.setkp p) = 0x80000000 ||| p.setWidth 32 ∧
    ∀ c0 c1 c2 : BitVec 8, wordOfSeq 24 (textToBits id [c0, c1, c2]) =
      c0.setWidth 24 <<< 16 ||| c1.setWidth 24 <<< 8 ||| c2.setWidth 24

/-- NOP (R210) does nothing but answer OK(0), in every state; its word is 0, and a word with `op` = 0 and any other bit set is
illegal. -/
def Obligations.NopOnlyAnswers : Prop :=
  (∀ s : State, exec .nop s = .next (s.answered 0)) ∧ encode .nop = 0 ∧
    ∀ (w : CmdWord) (s : State), cmdOp w = 0 → w ≠ 0 → runWord w s = .next (s.afterError 8)

/-- RD (R211): each of the sixteen forms answers OK with its register, zero-extended, when its valid condition holds, else
ERR_UNINIT; a read changes nothing else. -/
def Obligations.ReadsAnswerRegister : Prop :=
  ∀ s : State,
    exec .rdStatus s = .next (s.answered (s.status.setWidth 32)) ∧
    exec .rdRes s = .next (if s.sres = .found then s.answered (s.res.setWidth 32) else s.afterError 10) ∧
    exec .rdTapX s = .next (if s.vtap.x then s.answered (s.tap.x.setWidth 32) else s.afterError 10) ∧
    exec .rdTapY s = .next (if s.vtap.y then s.answered (s.tap.y.setWidth 32) else s.afterError 10) ∧
    exec .rdTapZ s = .next (if s.vtap.z then s.answered (s.tap.z.setWidth 32) else s.afterError 10) ∧
    exec .rdClkX s = .next (if s.vclk.x then s.answered (s.clk.x.setWidth 32) else s.afterError 10) ∧
    exec .rdClkY s = .next (if s.vclk.y then s.answered (s.clk.y.setWidth 32) else s.afterError 10) ∧
    exec .rdClkZ s = .next (if s.vclk.z then s.answered (s.clk.z.setWidth 32) else s.afterError 10) ∧
    exec .rdSeedX s = .next (if s.vseed.x then s.answered (s.seed.x.setWidth 32) else s.afterError 10) ∧
    exec .rdSeedY s = .next (if s.vseed.y then s.answered (s.seed.y.setWidth 32) else s.afterError 10) ∧
    exec .rdSeedZ s = .next (if s.vseed.z then s.answered (s.seed.z.setWidth 32) else s.afterError 10) ∧
    exec .rdLfsrX s = .next (if s.gv then s.answered (s.lfsr.x.setWidth 32) else s.afterError 10) ∧
    exec .rdLfsrY s = .next (if s.gv then s.answered (s.lfsr.y.setWidth 32) else s.afterError 10) ∧
    exec .rdLfsrZ s = .next (if s.gv then s.answered (s.lfsr.z.setWidth 32) else s.afterError 10) ∧
    exec .rdCt s = .next (if s.vct then s.answered (s.ct.setWidth 32) else s.afterError 10) ∧
    exec .rdKp s = .next (if s.vkp then s.answered (s.kp.setWidth 32) else s.afterError 10)

/-- Reading back a write, through the port (R211, R74): the payload sent is the payload answered, for every writable register. -/
def Obligations.ReadBackThroughPort : Prop :=
  ∀ (s : State) (p : Payload) (rest : List HostInput) (wr rd : CmdWord),
    ((wr, rd) ∈ ([(0x10000000, 0xA0000002), (0x14000000, 0xA4000002), (0x18000000, 0xA8000002), (0x20000000, 0xA0000003),
        (0x24000000, 0xA4000003), (0x28000000, 0xA8000003), (0x30000000, 0xA0000004), (0x34000000, 0xA4000004),
        (0x38000000, 0xA8000004), (0x70000000, 0xA0000006), (0x80000000, 0xA0000007)] : List (CmdWord × CmdWord))) →
    (∃ i, decode (wr ||| p.setWidth 32) = .ok i ∧ ∀ k,
      (i = .setclkX k → k ≤ 18) ∧ (i = .setclkY k → k ≤ 21) ∧ (i = .setclkZ k → k ≤ 22)) →
    s.busy = false → s.inbox = .command (wr ||| p.setWidth 32) :: .command rd :: rest →
    ∃ t, Host.Core.run core 2 s = .next t ∧ t.inbox = rest ∧ t.rspLog = s.rspLog ++ [0, p.setWidth 32]

/-- The STATUS word, field by field (R33), its reset value, and that RD.STATUS returns it. -/
def Obligations.StatusLayout : Prop :=
  State.reset.status = 0 ∧ ∀ s : State,
    s.status.getLsbD 0 = s.vtap.x ∧ s.status.getLsbD 1 = s.vtap.y ∧ s.status.getLsbD 2 = s.vtap.z ∧
    s.status.getLsbD 3 = s.vclk.x ∧ s.status.getLsbD 4 = s.vclk.y ∧ s.status.getLsbD 5 = s.vclk.z ∧
    s.status.getLsbD 6 = s.vseed.x ∧ s.status.getLsbD 7 = s.vseed.y ∧ s.status.getLsbD 8 = s.vseed.z ∧
    s.status.getLsbD 9 = s.vct ∧ s.status.getLsbD 10 = s.vkp ∧ s.status.getLsbD 11 = s.gv ∧
    s.status.extractLsb' 12 2 = (match s.sres with | .noResult => 0 | .found => 1 | .exhausted => 2) ∧
    s.status.getLsbD 14 = s.err ∧ s.status.extractLsb' 15 4 = s.ecode ∧ s.status.extractLsb' 19 5 = 0 ∧
    exec .rdStatus s = .next (s.answered (s.status.setWidth 32))

/-- ERR is sticky and ECODE is the code of the first error since reset (R31), for every command word. -/
def Obligations.ErrorFlagSticky : Prop :=
  State.reset.err = false ∧ State.reset.ecode = 0 ∧
  ∀ (w : CmdWord) (s t : State), runWord w s = .next t →
    (s.err = true → t.err = true ∧ t.ecode = s.ecode) ∧
    (s.err = false → t.err = false → t.ecode = s.ecode) ∧
    (s.err = false → t.err = true → ∃ rsp, t.rspLog = s.rspLog ++ [rsp] ∧ t.ecode = rspCode rsp) ∧
    (∀ rsp, t.rspLog = s.rspLog ++ [rsp] → 8 ≤ (rspCode rsp).toNat → t.err = true) ∧
    ((s.err = false → s.ecode = 0) → t.err = false → t.ecode = 0)

/-- A valid flag other than GV, once 1, stays 1 until reset (R35 f): every step that takes no reset keeps it. -/
def Obligations.ValidFlagsOnlyGrow : Prop :=
  ∀ s t : State, step s = .next t → (∀ rest, s.inbox ≠ .reset :: rest) →
    (∀ w rest, s.inbox ≠ .cutOff w :: rest) →
    (s.vtap.x → t.vtap.x) ∧ (s.vtap.y → t.vtap.y) ∧ (s.vtap.z → t.vtap.z) ∧
    (s.vclk.x → t.vclk.x) ∧ (s.vclk.y → t.vclk.y) ∧ (s.vclk.z → t.vclk.z) ∧
    (s.vseed.x → t.vseed.x) ∧ (s.vseed.y → t.vseed.y) ∧ (s.vseed.z → t.vseed.z) ∧
    (s.vct → t.vct) ∧ (s.vkp → t.vkp)

/-- What sets and clears GV (R23, R255, R256): only INIT sets it, and INIT, if it is not an error, always; SETTAP, an accepted
SETCLK and an accepted SEARCH clear it, and nothing else does. -/
def Obligations.GeneratorValidFlag : Prop :=
  ∀ (i : Instr) (s t : State), exec i s = .next t →
    (s.gv = false → t.gv = true → i = .init) ∧
    (i = .init → s.initReady = true → t.gv = true) ∧
    (s.gv = true → t.gv = false →
      (∃ m, i = .settapX m) ∨ (∃ m, i = .settapY m) ∨ (∃ m, i = .settapZ m) ∨
      (∃ k ≤ 18, i = .setclkX k) ∨ (∃ k ≤ 21, i = .setclkY k) ∨ (∃ k ≤ 22, i = .setclkZ k) ∨
      (i = .search ∧ s.searchReady = true)) ∧
    (((∃ m, i = .settapX m) ∨ (∃ m, i = .settapY m) ∨ (∃ m, i = .settapZ m) ∨
      (∃ k ≤ 18, i = .setclkX k) ∨ (∃ k ≤ 21, i = .setclkY k) ∨ (∃ k ≤ 22, i = .setclkZ k) ∨
      (i = .search ∧ s.searchReady = true)) → t.gv = false)

/-- Which command writes what (R37): each register changes only by the commands that name it. That SETTAP and SETCLK keep
the working registers, and an exhausted SEARCH keeps RES, is the model's reading of R22, R37 and R166 (log 8). -/
def Obligations.RegistersHaveTheirWriters : Prop :=
  ∀ (i : Instr) (s t : State), exec i s = .next t →
    ((t.tap.x, t.vtap.x) ≠ (s.tap.x, s.vtap.x) → ∃ m, i = .settapX m) ∧
    ((t.tap.y, t.vtap.y) ≠ (s.tap.y, s.vtap.y) → ∃ m, i = .settapY m) ∧
    ((t.tap.z, t.vtap.z) ≠ (s.tap.z, s.vtap.z) → ∃ m, i = .settapZ m) ∧
    ((t.clk.x, t.vclk.x) ≠ (s.clk.x, s.vclk.x) → ∃ k, i = .setclkX k) ∧
    ((t.clk.y, t.vclk.y) ≠ (s.clk.y, s.vclk.y) → ∃ k, i = .setclkY k) ∧
    ((t.clk.z, t.vclk.z) ≠ (s.clk.z, s.vclk.z) → ∃ k, i = .setclkZ k) ∧
    ((t.seed.x, t.vseed.x) ≠ (s.seed.x, s.vseed.x) → ∃ b, i = .seedX b) ∧
    ((t.seed.y, t.vseed.y) ≠ (s.seed.y, s.vseed.y) → ∃ b, i = .seedY b) ∧
    ((t.seed.z, t.vseed.z) ≠ (s.seed.z, s.vseed.z) → ∃ b, i = .seedZ b) ∧
    ((t.ct, t.vct) ≠ (s.ct, s.vct) → ∃ p, i = .setct p) ∧
    ((t.kp, t.vkp) ≠ (s.kp, s.vkp) → ∃ p, i = .setkp p) ∧
    (t.lfsr ≠ s.lfsr → i = .init ∨ i = .step ∨ (∃ b, i = .crypt b) ∨ i = .search) ∧
    ((t.sres, t.res, t.cand, t.idx, t.busy) ≠ (s.sres, s.res, s.cand, s.idx, s.busy) → i = .search) ∧
    t.inbox = s.inbox

/-- What the spec leaves unspecified never becomes visible (R36, U1 to U4): from two states that agree in everything the flags
call valid, the same inputs give the same responses at every length of run, and states that still agree. -/
def Obligations.HiddenContentsNeverObservable : Prop :=
  ∀ (k : Nat) (s s' t : State), s.Inv → s'.Inv → Agree s s' → Host.Core.run core k s = .next t →
    ∃ t', Host.Core.run core k s' = .next t' ∧ Agree t t'

/-- Every step and every command ends in a next state (R231): no stuck state, no hang, no refusal. -/
def Obligations.EveryCommandEnds : Prop :=
  (∀ (i : Instr) (s : State), ∃ t, exec i s = .next t) ∧ ∀ s : State, ∃ t, step s = .next t

/-- Every command word is answered by exactly one response word of the form of R72 with a code of R73, and takes none of the
inputs behind it. -/
def Obligations.OneResponsePerCommand : Prop :=
  ∀ (w : CmdWord) (s : State), ∃ (t : State) (rsp : RspWord), runWord w s = .next t ∧ t.rspLog = s.rspLog ++ [rsp] ∧
    t.inbox = s.inbox ∧ rsp.extractLsb' 24 4 = 0 ∧ rspCode rsp ∈ ([0, 1, 2, 8, 9, 10] : List (BitVec 4)) ∧
    ((rspCode rsp).toNat ≤ 2 → t.err = s.err ∧ t.ecode = s.ecode) ∧
    (8 ≤ (rspCode rsp).toNat → t.err = true ∧ rsp.extractLsb' 0 24 = 0) ∧
    (rspCode rsp = 1 → t.sres = .found ∧ t.res = rsp.extractLsb' 0 22 ∧ decode w = .ok .search) ∧
    (rspCode rsp = 2 → t.sres = .exhausted ∧ rsp.extractLsb' 0 24 = 0 ∧ decode w = .ok .search)

/-- Commands take effect in the order presented, none dropped, duplicated or reordered, one response each (R57): as many steps
as commands take them all, and the run is the commands one after the other. -/
def Obligations.CommandsInOrder : Prop :=
  ∀ (ws : List CmdWord) (s : State) (rest : List HostInput), s.busy = false → s.inbox = ws.map .command ++ rest →
    ∃ (t : State) (rsps : List RspWord), Host.Core.run core ws.length s = .next t ∧ t.inbox = rest ∧
      t.rspLog = s.rspLog ++ rsps ∧ rsps.length = ws.length ∧
      ∀ w ws', ws = w :: ws' → ∃ u, runWord w { s with inbox := ws'.map .command ++ rest } = .next u ∧
        Host.Core.run core ws'.length u = .next t

/-- Idempotence (R55): every command but STEP and CRYPT, issued twice, answers the same and leaves the state of issuing it once,
but for the second response, and for SEARCH what it leaves unspecified. That SETTAP and SETCLK keep the working registers is
the model's reading (log 8). -/
def Obligations.WritesAreIdempotent : Prop :=
  ∀ (i : Instr) (s t u : State), exec i s = .next t → exec i t = .next u →
    i ≠ .step → (∀ b, i ≠ .crypt b) →
    u = { t with lfsr := u.lfsr, cand := u.cand, idx := u.idx, freeTick := u.freeTick, rspLog := u.rspLog } ∧
    (i ≠ .search → u.lfsr = t.lfsr ∧ u.cand = t.cand ∧ u.idx = t.idx) ∧
    ∃ rsp, t.rspLog = s.rspLog ++ [rsp] ∧ u.rspLog = t.rspLog ++ [rsp]

/-- Degenerate generators (R138): all-zero registers stay all zero and every keystream bit is 0; and with X and Z all zero a
register Y whose clocking bit is 1 never moves again, its last bit being the keystream from then on. -/
def Obligations.GeneratorStalls : Prop :=
  ∀ (c : Cfg) (n : Nat),
    generate c ⟨0, 0, 0⟩ n = (⟨0, 0, 0⟩, List.replicate n false) ∧
    (∀ y : YWord, posBit y c.clk.y.toNat = true →
      generate c ⟨0, y, 0⟩ n = (⟨0, y, 0⟩, List.replicate n (posBit y 21))) ∧
    (∀ y : YWord, posBit y c.clk.y.toNat = false →
      (genStep c ⟨0, y, 0⟩).1 = ⟨0, clockNext y c.tap.y, 0⟩)

/-- ERR_UNINIT, command by command (R222). -/
def Obligations.UninitCommandByCommand : Prop :=
  ∀ s : State,
    ((s.vtap.x && s.vtap.y && s.vtap.z && s.vclk.x && s.vclk.y && s.vclk.z && s.vseed.x && s.vseed.y && s.vseed.z) = false →
      exec .init s = .next (s.afterError 10)) ∧
    (s.gv = false → exec .step s = .next (s.afterError 10)) ∧
    (∀ b, s.gv = false → exec (.crypt b) s = .next (s.afterError 10)) ∧
    ((s.vtap.x && s.vtap.y && s.vtap.z && s.vclk.x && s.vclk.y && s.vclk.z && s.vseed.x && s.vseed.z && s.vct && s.vkp) = false →
      exec .search s = .next (s.afterError 10)) ∧
    (s.sres ≠ .found → exec .rdRes s = .next (s.afterError 10)) ∧
    (s.vtap.x = false → exec .rdTapX s = .next (s.afterError 10)) ∧
    (s.vtap.y = false → exec .rdTapY s = .next (s.afterError 10)) ∧
    (s.vtap.z = false → exec .rdTapZ s = .next (s.afterError 10)) ∧
    (s.vclk.x = false → exec .rdClkX s = .next (s.afterError 10)) ∧
    (s.vclk.y = false → exec .rdClkY s = .next (s.afterError 10)) ∧
    (s.vclk.z = false → exec .rdClkZ s = .next (s.afterError 10)) ∧
    (s.vseed.x = false → exec .rdSeedX s = .next (s.afterError 10)) ∧
    (s.vseed.y = false → exec .rdSeedY s = .next (s.afterError 10)) ∧
    (s.vseed.z = false → exec .rdSeedZ s = .next (s.afterError 10)) ∧
    (s.gv = false → exec .rdLfsrX s = .next (s.afterError 10) ∧ exec .rdLfsrY s = .next (s.afterError 10) ∧
      exec .rdLfsrZ s = .next (s.afterError 10)) ∧
    (s.vct = false → exec .rdCt s = .next (s.afterError 10)) ∧
    (s.vkp = false → exec .rdKp s = .next (s.afterError 10))

/-- Error entry (R224): a command word whose response carries an error code leaves the state as it was but for ERR and ECODE. -/
def Obligations.ErrorChangesOnlyFlags : Prop :=
  ∀ (w : CmdWord) (s t : State) (rsp : RspWord), runWord w s = .next t → t.rspLog = s.rspLog ++ [rsp] →
    8 ≤ (rspCode rsp).toNat → t = s.afterError (rspCode rsp) ∧ rsp.extractLsb' 0 28 = 0

/-- TextToBits and BitsToText (R196, R197): each character's code stands most significant bit first, eight bits a character; the
way back maps each group of eight bits to a character and drops a shorter last group; and the round trip gives the text again,
for every character code that has an inverse on the text's characters. -/
def Obligations.TextRoundTrip : Prop :=
  ∀ (code : Char → BitVec 8) (char : BitVec 8 → Char) (text : List Char) (tail : List Bool),
    tail.length < 8 →
      (textToBits code text).length = 8 * text.length ∧
      (∀ (i t : Nat) (ch : Char), text[i]? = some ch → t < 8 → (textToBits code text)[8 * i + t]? = some ((code ch).getLsbD (7 - t))) ∧
      (∀ bytes : List (BitVec 8), bitsToText char (textToBits id bytes ++ tail) = bytes.map char) ∧
      ((∀ ch ∈ text, char (code ch) = ch) → bitsToText char (textToBits code text ++ tail) = text)

/-- LOADCFG (R192): from every state the six commands leave the configuration in force, its six flags 1 and GV 0. -/
def Obligations.LoadCfgInstallsConfiguration : Prop :=
  ∀ (c : Cfg) (s : State), c.clk.x.toNat ≤ 18 → c.clk.y.toNat ≤ 21 → c.clk.z.toNat ≤ 22 →
    issueAll (loadCfgCommands c) s = { s with
      lfsr := (issueAll (loadCfgCommands c) s).lfsr, tap := c.tap, clk := c.clk, vtap := ⟨true, true, true⟩, vclk := ⟨true, true, true⟩, gv := false,
      rspLog := s.rspLog ++ List.replicate 6 0 }

/-- RECOVER (R193): with a configuration loaded the five commands answer the least matching candidate, or the failure signal. -/
def Obligations.RecoverReturnsSearchResult : Prop :=
  ∀ (s : State) (sx : XWord) (sz : ZWord) (ct kp : List Bool), s.vtap = ⟨true, true, true⟩ → s.vclk = ⟨true, true, true⟩ →
    24 ≤ ct.length → 24 ≤ kp.length →
    (recover sx sz ct kp s).2 =
      (match searchAll ⟨s.tap, s.clk⟩ sx sz (wordOfSeq 24 (ct.take 24)) (wordOfSeq 24 (kp.take 24)) with
        | .found y => some y
        | .exhausted => none) ∧
    (recover sx sz ct kp s).1.gv = false

/-- DECRYPT_ALL (R194): with a configuration loaded the result is the whole ciphertext combined with the keystream of the
generator of the three given states. -/
def Obligations.DecryptAllUsesFreshGenerator : Prop :=
  ∀ (s : State) (g : Regs) (ct : List Bool), s.vtap = ⟨true, true, true⟩ → s.vclk = ⟨true, true, true⟩ →
    (decryptAll g ct s).2 = decrypt ct (generate ⟨s.tap, s.clk⟩ g ct.length).2 ∧
    (decryptAll g ct s).1.lfsr = (generate ⟨s.tap, s.clk⟩ g ct.length).1 ∧ (decryptAll g ct s).1.gv = true

/-- RECOVER_AND_DECRYPT (R195): if the search recovers `y`, the text is that of the whole ciphertext decrypted from `y`, and its
first 24 bits are the known plaintext's (R194); else the failure signal, and the host stops: the state is the one RECOVER
leaves. -/
def Obligations.RecoverAndDecryptText : Prop :=
  ∀ (code : Char → BitVec 8) (char : BitVec 8 → Char) (s : State) (sx : XWord) (sz : ZWord) (known : List Char)
    (ct : List Bool), s.vtap = ⟨true, true, true⟩ → s.vclk = ⟨true, true, true⟩ → 24 ≤ ct.length → 3 ≤ known.length →
    (∀ y, searchAll ⟨s.tap, s.clk⟩ sx sz (wordOfSeq 24 (ct.take 24)) (wordOfSeq 24 ((textToBits code known).take 24)) = .found y →
      (recoverAndDecrypt code char sx sz known ct s).2 =
        some (bitsToText char (decrypt ct (generate ⟨s.tap, s.clk⟩ ⟨sx, y, sz⟩ ct.length).2)) ∧
      (decrypt ct (generate ⟨s.tap, s.clk⟩ ⟨sx, y, sz⟩ ct.length).2).take 24 = (textToBits code known).take 24) ∧
    (searchAll ⟨s.tap, s.clk⟩ sx sz (wordOfSeq 24 (ct.take 24)) (wordOfSeq 24 ((textToBits code known).take 24)) = .exhausted →
      recoverAndDecrypt code char sx sz known ct s = ((recover sx sz ct (textToBits code known) s).1, none))
end

