-- ==== Sys2Proof/Laws/Bits.lean ====
section
/-! SUPPORT. Laws/Bits.lean: the bits of a clocked register, of parity, and of sequences. -/

namespace Sys2Proof.Machine

/-- Position i is the bit of weight `2^(n-1-i)` (R13). -/
theorem posBit_eq {n : Nat} (s : BitVec n) {i : Nat} (h : i < n) : posBit s i = s.getLsbD (n - 1 - i) := by
  simp [posBit, BitVec.getMsbD, h]

/-- The bits of a clocked register: the feedback on top, the rest shifted right by one (R103). -/
theorem clockNext_getLsbD {w : Nat} (s t : BitVec w) {i : Nat} (h : i < w) :
    (clockNext s t).getLsbD i = if i = w - 1 then feedback s t else s.getLsbD (i + 1) := by
  unfold clockNext
  rw [BitVec.getLsbD_or, BitVec.getLsbD_shiftLeft, BitVec.getLsbD_ushiftRight]
  by_cases e : i = w - 1
  · subst e
    have hz : s.getLsbD (1 + (w - 1)) = false := BitVec.getLsbD_of_ge s _ (by omega)
    have hw : 0 < w := by omega
    rw [hz]
    simp [h, hw]
  · have hl : i < w - 1 := by omega
    simp [e, hl, Nat.add_comm]

@[simp] theorem parityBelow_zero {w : Nat} (n : Nat) : parityBelow (0#w) n = false := by
  induction n with
  | zero => rfl
  | succ n ih => simp [parityBelow, ih]

/-- Parity is linear over exclusive or. -/
theorem parityBelow_xor {w : Nat} (a b : BitVec w) (n : Nat) :
    parityBelow (a ^^^ b) n = (parityBelow a n).xor (parityBelow b n) := by
  induction n with
  | zero => rfl
  | succ n ih =>
    simp only [parityBelow, ih, BitVec.getLsbD_xor]
    cases a.getLsbD n <;> cases b.getLsbD n <;> cases parityBelow a n <;> cases parityBelow b n <;> rfl

/-- A sequence has the length of its word. -/
@[simp] theorem seqOfWord_length {n : Nat} (v : BitVec n) : (seqOfWord v).length = n := by simp [seqOfWord]

/-- The bit of a sequence at a position (R13). -/
theorem seqOfWord_getElem? {n : Nat} (v : BitVec n) {i : Nat} (h : i < n) :
    (seqOfWord v)[i]? = some (posBit v i) := by simp [seqOfWord, h]

/-- A keystream of `n` steps has `n` bits (R136). -/
@[simp] theorem generate_length (c : Cfg) (g : Regs) (n : Nat) : (generate c g n).2.length = n := by
  induction n generalizing g with
  | zero => rfl
  | succ n ih => simp [generate, ih]

end Sys2Proof.Machine
end

