-- ==== Sys2Proof/Laws/State.lean ====
section
/-! SUPPORT. Laws/State.lean: one lemma per field per named update of the state, so that no proof unfolds a record update. -/

namespace Sys2Proof.Machine

variable (s : State)

@[simp] theorem State.respond_lfsr (code : BitVec 4) (data : Payload) : (s.respond code data).lfsr = s.lfsr := rfl
@[simp] theorem State.respond_gv (code : BitVec 4) (data : Payload) : (s.respond code data).gv = s.gv := rfl
@[simp] theorem State.respond_tap (code : BitVec 4) (data : Payload) : (s.respond code data).tap = s.tap := rfl
@[simp] theorem State.respond_clk (code : BitVec 4) (data : Payload) : (s.respond code data).clk = s.clk := rfl
@[simp] theorem State.respond_seed (code : BitVec 4) (data : Payload) : (s.respond code data).seed = s.seed := rfl
@[simp] theorem State.respond_ct (code : BitVec 4) (data : Payload) : (s.respond code data).ct = s.ct := rfl
@[simp] theorem State.respond_kp (code : BitVec 4) (data : Payload) : (s.respond code data).kp = s.kp := rfl
@[simp] theorem State.respond_vtap (code : BitVec 4) (data : Payload) : (s.respond code data).vtap = s.vtap := rfl
@[simp] theorem State.respond_vclk (code : BitVec 4) (data : Payload) : (s.respond code data).vclk = s.vclk := rfl
@[simp] theorem State.respond_vseed (code : BitVec 4) (data : Payload) : (s.respond code data).vseed = s.vseed := rfl
@[simp] theorem State.respond_vct (code : BitVec 4) (data : Payload) : (s.respond code data).vct = s.vct := rfl
@[simp] theorem State.respond_vkp (code : BitVec 4) (data : Payload) : (s.respond code data).vkp = s.vkp := rfl
@[simp] theorem State.respond_sres (code : BitVec 4) (data : Payload) : (s.respond code data).sres = s.sres := rfl
@[simp] theorem State.respond_res (code : BitVec 4) (data : Payload) : (s.respond code data).res = s.res := rfl
@[simp] theorem State.respond_err (code : BitVec 4) (data : Payload) : (s.respond code data).err = s.err := rfl
@[simp] theorem State.respond_ecode (code : BitVec 4) (data : Payload) : (s.respond code data).ecode = s.ecode := rfl
@[simp] theorem State.respond_cand (code : BitVec 4) (data : Payload) : (s.respond code data).cand = s.cand := rfl
@[simp] theorem State.respond_idx (code : BitVec 4) (data : Payload) : (s.respond code data).idx = s.idx := rfl
@[simp] theorem State.respond_busy (code : BitVec 4) (data : Payload) : (s.respond code data).busy = s.busy := rfl
@[simp] theorem State.respond_inbox (code : BitVec 4) (data : Payload) : (s.respond code data).inbox = s.inbox := rfl
@[simp] theorem State.respond_rspLog (code : BitVec 4) (data : Payload) : (s.respond code data).rspLog = s.rspLog ++ [rspWord code data] := rfl
@[simp] theorem State.respond_freeTick (code : BitVec 4) (data : Payload) : (s.respond code data).freeTick = s.freeTick := rfl

@[simp] theorem State.ok_lfsr (data : Payload) : (s.ok data).lfsr = s.lfsr := rfl
@[simp] theorem State.ok_gv (data : Payload) : (s.ok data).gv = s.gv := rfl
@[simp] theorem State.ok_tap (data : Payload) : (s.ok data).tap = s.tap := rfl
@[simp] theorem State.ok_clk (data : Payload) : (s.ok data).clk = s.clk := rfl
@[simp] theorem State.ok_seed (data : Payload) : (s.ok data).seed = s.seed := rfl
@[simp] theorem State.ok_ct (data : Payload) : (s.ok data).ct = s.ct := rfl
@[simp] theorem State.ok_kp (data : Payload) : (s.ok data).kp = s.kp := rfl
@[simp] theorem State.ok_vtap (data : Payload) : (s.ok data).vtap = s.vtap := rfl
@[simp] theorem State.ok_vclk (data : Payload) : (s.ok data).vclk = s.vclk := rfl
@[simp] theorem State.ok_vseed (data : Payload) : (s.ok data).vseed = s.vseed := rfl
@[simp] theorem State.ok_vct (data : Payload) : (s.ok data).vct = s.vct := rfl
@[simp] theorem State.ok_vkp (data : Payload) : (s.ok data).vkp = s.vkp := rfl
@[simp] theorem State.ok_sres (data : Payload) : (s.ok data).sres = s.sres := rfl
@[simp] theorem State.ok_res (data : Payload) : (s.ok data).res = s.res := rfl
@[simp] theorem State.ok_err (data : Payload) : (s.ok data).err = s.err := rfl
@[simp] theorem State.ok_ecode (data : Payload) : (s.ok data).ecode = s.ecode := rfl
@[simp] theorem State.ok_cand (data : Payload) : (s.ok data).cand = s.cand := rfl
@[simp] theorem State.ok_idx (data : Payload) : (s.ok data).idx = s.idx := rfl
@[simp] theorem State.ok_busy (data : Payload) : (s.ok data).busy = s.busy := rfl
@[simp] theorem State.ok_inbox (data : Payload) : (s.ok data).inbox = s.inbox := rfl
@[simp] theorem State.ok_rspLog (data : Payload) : (s.ok data).rspLog = s.rspLog ++ [rspWord codeOk data] := rfl
@[simp] theorem State.ok_freeTick (data : Payload) : (s.ok data).freeTick = s.freeTick := rfl

@[simp] theorem State.raise_lfsr (e : CmdError) : (s.raise e).lfsr = s.lfsr := rfl
@[simp] theorem State.raise_gv (e : CmdError) : (s.raise e).gv = s.gv := rfl
@[simp] theorem State.raise_tap (e : CmdError) : (s.raise e).tap = s.tap := rfl
@[simp] theorem State.raise_clk (e : CmdError) : (s.raise e).clk = s.clk := rfl
@[simp] theorem State.raise_seed (e : CmdError) : (s.raise e).seed = s.seed := rfl
@[simp] theorem State.raise_ct (e : CmdError) : (s.raise e).ct = s.ct := rfl
@[simp] theorem State.raise_kp (e : CmdError) : (s.raise e).kp = s.kp := rfl
@[simp] theorem State.raise_vtap (e : CmdError) : (s.raise e).vtap = s.vtap := rfl
@[simp] theorem State.raise_vclk (e : CmdError) : (s.raise e).vclk = s.vclk := rfl
@[simp] theorem State.raise_vseed (e : CmdError) : (s.raise e).vseed = s.vseed := rfl
@[simp] theorem State.raise_vct (e : CmdError) : (s.raise e).vct = s.vct := rfl
@[simp] theorem State.raise_vkp (e : CmdError) : (s.raise e).vkp = s.vkp := rfl
@[simp] theorem State.raise_sres (e : CmdError) : (s.raise e).sres = s.sres := rfl
@[simp] theorem State.raise_res (e : CmdError) : (s.raise e).res = s.res := rfl
@[simp] theorem State.raise_err (e : CmdError) : (s.raise e).err = true := rfl
@[simp] theorem State.raise_ecode (e : CmdError) : (s.raise e).ecode = if s.err then s.ecode else e.code := rfl
@[simp] theorem State.raise_cand (e : CmdError) : (s.raise e).cand = s.cand := rfl
@[simp] theorem State.raise_idx (e : CmdError) : (s.raise e).idx = s.idx := rfl
@[simp] theorem State.raise_busy (e : CmdError) : (s.raise e).busy = s.busy := rfl
@[simp] theorem State.raise_inbox (e : CmdError) : (s.raise e).inbox = s.inbox := rfl
@[simp] theorem State.raise_rspLog (e : CmdError) : (s.raise e).rspLog = s.rspLog ++ [rspWord e.code 0] := rfl
@[simp] theorem State.raise_freeTick (e : CmdError) : (s.raise e).freeTick = s.freeTick := rfl

@[simp] theorem State.writeTap_lfsr (r : Reg) (m : BitVec r.width) : (s.writeTap r m).lfsr = s.lfsr := rfl
@[simp] theorem State.writeTap_gv (r : Reg) (m : BitVec r.width) : (s.writeTap r m).gv = false := rfl
@[simp] theorem State.writeTap_tap (r : Reg) (m : BitVec r.width) : (s.writeTap r m).tap = s.tap.set r m := rfl
@[simp] theorem State.writeTap_clk (r : Reg) (m : BitVec r.width) : (s.writeTap r m).clk = s.clk := rfl
@[simp] theorem State.writeTap_seed (r : Reg) (m : BitVec r.width) : (s.writeTap r m).seed = s.seed := rfl
@[simp] theorem State.writeTap_ct (r : Reg) (m : BitVec r.width) : (s.writeTap r m).ct = s.ct := rfl
@[simp] theorem State.writeTap_kp (r : Reg) (m : BitVec r.width) : (s.writeTap r m).kp = s.kp := rfl
@[simp] theorem State.writeTap_vtap (r : Reg) (m : BitVec r.width) : (s.writeTap r m).vtap = s.vtap.mark r := rfl
@[simp] theorem State.writeTap_vclk (r : Reg) (m : BitVec r.width) : (s.writeTap r m).vclk = s.vclk := rfl
@[simp] theorem State.writeTap_vseed (r : Reg) (m : BitVec r.width) : (s.writeTap r m).vseed = s.vseed := rfl
@[simp] theorem State.writeTap_vct (r : Reg) (m : BitVec r.width) : (s.writeTap r m).vct = s.vct := rfl
@[simp] theorem State.writeTap_vkp (r : Reg) (m : BitVec r.width) : (s.writeTap r m).vkp = s.vkp := rfl
@[simp] theorem State.writeTap_sres (r : Reg) (m : BitVec r.width) : (s.writeTap r m).sres = s.sres := rfl
@[simp] theorem State.writeTap_res (r : Reg) (m : BitVec r.width) : (s.writeTap r m).res = s.res := rfl
@[simp] theorem State.writeTap_err (r : Reg) (m : BitVec r.width) : (s.writeTap r m).err = s.err := rfl
@[simp] theorem State.writeTap_ecode (r : Reg) (m : BitVec r.width) : (s.writeTap r m).ecode = s.ecode := rfl
@[simp] theorem State.writeTap_cand (r : Reg) (m : BitVec r.width) : (s.writeTap r m).cand = s.cand := rfl
@[simp] theorem State.writeTap_idx (r : Reg) (m : BitVec r.width) : (s.writeTap r m).idx = s.idx := rfl
@[simp] theorem State.writeTap_busy (r : Reg) (m : BitVec r.width) : (s.writeTap r m).busy = s.busy := rfl
@[simp] theorem State.writeTap_inbox (r : Reg) (m : BitVec r.width) : (s.writeTap r m).inbox = s.inbox := rfl
@[simp] theorem State.writeTap_rspLog (r : Reg) (m : BitVec r.width) : (s.writeTap r m).rspLog = s.rspLog := rfl
@[simp] theorem State.writeTap_freeTick (r : Reg) (m : BitVec r.width) : (s.writeTap r m).freeTick = s.freeTick := rfl

@[simp] theorem State.writeClk_lfsr (r : Reg) (v : Index) : (s.writeClk r v).lfsr = s.lfsr := rfl
@[simp] theorem State.writeClk_gv (r : Reg) (v : Index) : (s.writeClk r v).gv = false := rfl
@[simp] theorem State.writeClk_tap (r : Reg) (v : Index) : (s.writeClk r v).tap = s.tap := rfl
@[simp] theorem State.writeClk_clk (r : Reg) (v : Index) : (s.writeClk r v).clk = s.clk.set r v := rfl
@[simp] theorem State.writeClk_seed (r : Reg) (v : Index) : (s.writeClk r v).seed = s.seed := rfl
@[simp] theorem State.writeClk_ct (r : Reg) (v : Index) : (s.writeClk r v).ct = s.ct := rfl
@[simp] theorem State.writeClk_kp (r : Reg) (v : Index) : (s.writeClk r v).kp = s.kp := rfl
@[simp] theorem State.writeClk_vtap (r : Reg) (v : Index) : (s.writeClk r v).vtap = s.vtap := rfl
@[simp] theorem State.writeClk_vclk (r : Reg) (v : Index) : (s.writeClk r v).vclk = s.vclk.mark r := rfl
@[simp] theorem State.writeClk_vseed (r : Reg) (v : Index) : (s.writeClk r v).vseed = s.vseed := rfl
@[simp] theorem State.writeClk_vct (r : Reg) (v : Index) : (s.writeClk r v).vct = s.vct := rfl
@[simp] theorem State.writeClk_vkp (r : Reg) (v : Index) : (s.writeClk r v).vkp = s.vkp := rfl
@[simp] theorem State.writeClk_sres (r : Reg) (v : Index) : (s.writeClk r v).sres = s.sres := rfl
@[simp] theorem State.writeClk_res (r : Reg) (v : Index) : (s.writeClk r v).res = s.res := rfl
@[simp] theorem State.writeClk_err (r : Reg) (v : Index) : (s.writeClk r v).err = s.err := rfl
@[simp] theorem State.writeClk_ecode (r : Reg) (v : Index) : (s.writeClk r v).ecode = s.ecode := rfl
@[simp] theorem State.writeClk_cand (r : Reg) (v : Index) : (s.writeClk r v).cand = s.cand := rfl
@[simp] theorem State.writeClk_idx (r : Reg) (v : Index) : (s.writeClk r v).idx = s.idx := rfl
@[simp] theorem State.writeClk_busy (r : Reg) (v : Index) : (s.writeClk r v).busy = s.busy := rfl
@[simp] theorem State.writeClk_inbox (r : Reg) (v : Index) : (s.writeClk r v).inbox = s.inbox := rfl
@[simp] theorem State.writeClk_rspLog (r : Reg) (v : Index) : (s.writeClk r v).rspLog = s.rspLog := rfl
@[simp] theorem State.writeClk_freeTick (r : Reg) (v : Index) : (s.writeClk r v).freeTick = s.freeTick := rfl

@[simp] theorem State.writeSeed_lfsr (r : Reg) (m : BitVec r.width) : (s.writeSeed r m).lfsr = s.lfsr := rfl
@[simp] theorem State.writeSeed_gv (r : Reg) (m : BitVec r.width) : (s.writeSeed r m).gv = s.gv := rfl
@[simp] theorem State.writeSeed_tap (r : Reg) (m : BitVec r.width) : (s.writeSeed r m).tap = s.tap := rfl
@[simp] theorem State.writeSeed_clk (r : Reg) (m : BitVec r.width) : (s.writeSeed r m).clk = s.clk := rfl
@[simp] theorem State.writeSeed_seed (r : Reg) (m : BitVec r.width) : (s.writeSeed r m).seed = s.seed.set r m := rfl
@[simp] theorem State.writeSeed_ct (r : Reg) (m : BitVec r.width) : (s.writeSeed r m).ct = s.ct := rfl
@[simp] theorem State.writeSeed_kp (r : Reg) (m : BitVec r.width) : (s.writeSeed r m).kp = s.kp := rfl
@[simp] theorem State.writeSeed_vtap (r : Reg) (m : BitVec r.width) : (s.writeSeed r m).vtap = s.vtap := rfl
@[simp] theorem State.writeSeed_vclk (r : Reg) (m : BitVec r.width) : (s.writeSeed r m).vclk = s.vclk := rfl
@[simp] theorem State.writeSeed_vseed (r : Reg) (m : BitVec r.width) : (s.writeSeed r m).vseed = s.vseed.mark r := rfl
@[simp] theorem State.writeSeed_vct (r : Reg) (m : BitVec r.width) : (s.writeSeed r m).vct = s.vct := rfl
@[simp] theorem State.writeSeed_vkp (r : Reg) (m : BitVec r.width) : (s.writeSeed r m).vkp = s.vkp := rfl
@[simp] theorem State.writeSeed_sres (r : Reg) (m : BitVec r.width) : (s.writeSeed r m).sres = s.sres := rfl
@[simp] theorem State.writeSeed_res (r : Reg) (m : BitVec r.width) : (s.writeSeed r m).res = s.res := rfl
@[simp] theorem State.writeSeed_err (r : Reg) (m : BitVec r.width) : (s.writeSeed r m).err = s.err := rfl
@[simp] theorem State.writeSeed_ecode (r : Reg) (m : BitVec r.width) : (s.writeSeed r m).ecode = s.ecode := rfl
@[simp] theorem State.writeSeed_cand (r : Reg) (m : BitVec r.width) : (s.writeSeed r m).cand = s.cand := rfl
@[simp] theorem State.writeSeed_idx (r : Reg) (m : BitVec r.width) : (s.writeSeed r m).idx = s.idx := rfl
@[simp] theorem State.writeSeed_busy (r : Reg) (m : BitVec r.width) : (s.writeSeed r m).busy = s.busy := rfl
@[simp] theorem State.writeSeed_inbox (r : Reg) (m : BitVec r.width) : (s.writeSeed r m).inbox = s.inbox := rfl
@[simp] theorem State.writeSeed_rspLog (r : Reg) (m : BitVec r.width) : (s.writeSeed r m).rspLog = s.rspLog := rfl
@[simp] theorem State.writeSeed_freeTick (r : Reg) (m : BitVec r.width) : (s.writeSeed r m).freeTick = s.freeTick := rfl

@[simp] theorem State.writeCt_lfsr (p : Payload) : (s.writeCt p).lfsr = s.lfsr := rfl
@[simp] theorem State.writeCt_gv (p : Payload) : (s.writeCt p).gv = s.gv := rfl
@[simp] theorem State.writeCt_tap (p : Payload) : (s.writeCt p).tap = s.tap := rfl
@[simp] theorem State.writeCt_clk (p : Payload) : (s.writeCt p).clk = s.clk := rfl
@[simp] theorem State.writeCt_seed (p : Payload) : (s.writeCt p).seed = s.seed := rfl
@[simp] theorem State.writeCt_ct (p : Payload) : (s.writeCt p).ct = p := rfl
@[simp] theorem State.writeCt_kp (p : Payload) : (s.writeCt p).kp = s.kp := rfl
@[simp] theorem State.writeCt_vtap (p : Payload) : (s.writeCt p).vtap = s.vtap := rfl
@[simp] theorem State.writeCt_vclk (p : Payload) : (s.writeCt p).vclk = s.vclk := rfl
@[simp] theorem State.writeCt_vseed (p : Payload) : (s.writeCt p).vseed = s.vseed := rfl
@[simp] theorem State.writeCt_vct (p : Payload) : (s.writeCt p).vct = true := rfl
@[simp] theorem State.writeCt_vkp (p : Payload) : (s.writeCt p).vkp = s.vkp := rfl
@[simp] theorem State.writeCt_sres (p : Payload) : (s.writeCt p).sres = s.sres := rfl
@[simp] theorem State.writeCt_res (p : Payload) : (s.writeCt p).res = s.res := rfl
@[simp] theorem State.writeCt_err (p : Payload) : (s.writeCt p).err = s.err := rfl
@[simp] theorem State.writeCt_ecode (p : Payload) : (s.writeCt p).ecode = s.ecode := rfl
@[simp] theorem State.writeCt_cand (p : Payload) : (s.writeCt p).cand = s.cand := rfl
@[simp] theorem State.writeCt_idx (p : Payload) : (s.writeCt p).idx = s.idx := rfl
@[simp] theorem State.writeCt_busy (p : Payload) : (s.writeCt p).busy = s.busy := rfl
@[simp] theorem State.writeCt_inbox (p : Payload) : (s.writeCt p).inbox = s.inbox := rfl
@[simp] theorem State.writeCt_rspLog (p : Payload) : (s.writeCt p).rspLog = s.rspLog := rfl
@[simp] theorem State.writeCt_freeTick (p : Payload) : (s.writeCt p).freeTick = s.freeTick := rfl

@[simp] theorem State.writeKp_lfsr (p : Payload) : (s.writeKp p).lfsr = s.lfsr := rfl
@[simp] theorem State.writeKp_gv (p : Payload) : (s.writeKp p).gv = s.gv := rfl
@[simp] theorem State.writeKp_tap (p : Payload) : (s.writeKp p).tap = s.tap := rfl
@[simp] theorem State.writeKp_clk (p : Payload) : (s.writeKp p).clk = s.clk := rfl
@[simp] theorem State.writeKp_seed (p : Payload) : (s.writeKp p).seed = s.seed := rfl
@[simp] theorem State.writeKp_ct (p : Payload) : (s.writeKp p).ct = s.ct := rfl
@[simp] theorem State.writeKp_kp (p : Payload) : (s.writeKp p).kp = p := rfl
@[simp] theorem State.writeKp_vtap (p : Payload) : (s.writeKp p).vtap = s.vtap := rfl
@[simp] theorem State.writeKp_vclk (p : Payload) : (s.writeKp p).vclk = s.vclk := rfl
@[simp] theorem State.writeKp_vseed (p : Payload) : (s.writeKp p).vseed = s.vseed := rfl
@[simp] theorem State.writeKp_vct (p : Payload) : (s.writeKp p).vct = s.vct := rfl
@[simp] theorem State.writeKp_vkp (p : Payload) : (s.writeKp p).vkp = true := rfl
@[simp] theorem State.writeKp_sres (p : Payload) : (s.writeKp p).sres = s.sres := rfl
@[simp] theorem State.writeKp_res (p : Payload) : (s.writeKp p).res = s.res := rfl
@[simp] theorem State.writeKp_err (p : Payload) : (s.writeKp p).err = s.err := rfl
@[simp] theorem State.writeKp_ecode (p : Payload) : (s.writeKp p).ecode = s.ecode := rfl
@[simp] theorem State.writeKp_cand (p : Payload) : (s.writeKp p).cand = s.cand := rfl
@[simp] theorem State.writeKp_idx (p : Payload) : (s.writeKp p).idx = s.idx := rfl
@[simp] theorem State.writeKp_busy (p : Payload) : (s.writeKp p).busy = s.busy := rfl
@[simp] theorem State.writeKp_inbox (p : Payload) : (s.writeKp p).inbox = s.inbox := rfl
@[simp] theorem State.writeKp_rspLog (p : Payload) : (s.writeKp p).rspLog = s.rspLog := rfl
@[simp] theorem State.writeKp_freeTick (p : Payload) : (s.writeKp p).freeTick = s.freeTick := rfl

@[simp] theorem State.construct_lfsr : (s.construct).lfsr = s.seed := rfl
@[simp] theorem State.construct_gv : (s.construct).gv = true := rfl
@[simp] theorem State.construct_tap : (s.construct).tap = s.tap := rfl
@[simp] theorem State.construct_clk : (s.construct).clk = s.clk := rfl
@[simp] theorem State.construct_seed : (s.construct).seed = s.seed := rfl
@[simp] theorem State.construct_ct : (s.construct).ct = s.ct := rfl
@[simp] theorem State.construct_kp : (s.construct).kp = s.kp := rfl
@[simp] theorem State.construct_vtap : (s.construct).vtap = s.vtap := rfl
@[simp] theorem State.construct_vclk : (s.construct).vclk = s.vclk := rfl
@[simp] theorem State.construct_vseed : (s.construct).vseed = s.vseed := rfl
@[simp] theorem State.construct_vct : (s.construct).vct = s.vct := rfl
@[simp] theorem State.construct_vkp : (s.construct).vkp = s.vkp := rfl
@[simp] theorem State.construct_sres : (s.construct).sres = s.sres := rfl
@[simp] theorem State.construct_res : (s.construct).res = s.res := rfl
@[simp] theorem State.construct_err : (s.construct).err = s.err := rfl
@[simp] theorem State.construct_ecode : (s.construct).ecode = s.ecode := rfl
@[simp] theorem State.construct_cand : (s.construct).cand = s.cand := rfl
@[simp] theorem State.construct_idx : (s.construct).idx = s.idx := rfl
@[simp] theorem State.construct_busy : (s.construct).busy = s.busy := rfl
@[simp] theorem State.construct_inbox : (s.construct).inbox = s.inbox := rfl
@[simp] theorem State.construct_rspLog : (s.construct).rspLog = s.rspLog := rfl
@[simp] theorem State.construct_freeTick : (s.construct).freeTick = s.freeTick := rfl

@[simp] theorem State.moveTo_lfsr (g : Regs) : (s.moveTo g).lfsr = g := rfl
@[simp] theorem State.moveTo_gv (g : Regs) : (s.moveTo g).gv = s.gv := rfl
@[simp] theorem State.moveTo_tap (g : Regs) : (s.moveTo g).tap = s.tap := rfl
@[simp] theorem State.moveTo_clk (g : Regs) : (s.moveTo g).clk = s.clk := rfl
@[simp] theorem State.moveTo_seed (g : Regs) : (s.moveTo g).seed = s.seed := rfl
@[simp] theorem State.moveTo_ct (g : Regs) : (s.moveTo g).ct = s.ct := rfl
@[simp] theorem State.moveTo_kp (g : Regs) : (s.moveTo g).kp = s.kp := rfl
@[simp] theorem State.moveTo_vtap (g : Regs) : (s.moveTo g).vtap = s.vtap := rfl
@[simp] theorem State.moveTo_vclk (g : Regs) : (s.moveTo g).vclk = s.vclk := rfl
@[simp] theorem State.moveTo_vseed (g : Regs) : (s.moveTo g).vseed = s.vseed := rfl
@[simp] theorem State.moveTo_vct (g : Regs) : (s.moveTo g).vct = s.vct := rfl
@[simp] theorem State.moveTo_vkp (g : Regs) : (s.moveTo g).vkp = s.vkp := rfl
@[simp] theorem State.moveTo_sres (g : Regs) : (s.moveTo g).sres = s.sres := rfl
@[simp] theorem State.moveTo_res (g : Regs) : (s.moveTo g).res = s.res := rfl
@[simp] theorem State.moveTo_err (g : Regs) : (s.moveTo g).err = s.err := rfl
@[simp] theorem State.moveTo_ecode (g : Regs) : (s.moveTo g).ecode = s.ecode := rfl
@[simp] theorem State.moveTo_cand (g : Regs) : (s.moveTo g).cand = s.cand := rfl
@[simp] theorem State.moveTo_idx (g : Regs) : (s.moveTo g).idx = s.idx := rfl
@[simp] theorem State.moveTo_busy (g : Regs) : (s.moveTo g).busy = s.busy := rfl
@[simp] theorem State.moveTo_inbox (g : Regs) : (s.moveTo g).inbox = s.inbox := rfl
@[simp] theorem State.moveTo_rspLog (g : Regs) : (s.moveTo g).rspLog = s.rspLog := rfl
@[simp] theorem State.moveTo_freeTick (g : Regs) : (s.moveTo g).freeTick = s.freeTick := rfl

@[simp] theorem State.forgetSearch_lfsr : (s.forgetSearch).lfsr = ⟨Config.freeLfsrX s.freeTick, Config.freeLfsrY s.freeTick, Config.freeLfsrZ s.freeTick⟩ := rfl
@[simp] theorem State.forgetSearch_gv : (s.forgetSearch).gv = s.gv := rfl
@[simp] theorem State.forgetSearch_tap : (s.forgetSearch).tap = s.tap := rfl
@[simp] theorem State.forgetSearch_clk : (s.forgetSearch).clk = s.clk := rfl
@[simp] theorem State.forgetSearch_seed : (s.forgetSearch).seed = s.seed := rfl
@[simp] theorem State.forgetSearch_ct : (s.forgetSearch).ct = s.ct := rfl
@[simp] theorem State.forgetSearch_kp : (s.forgetSearch).kp = s.kp := rfl
@[simp] theorem State.forgetSearch_vtap : (s.forgetSearch).vtap = s.vtap := rfl
@[simp] theorem State.forgetSearch_vclk : (s.forgetSearch).vclk = s.vclk := rfl
@[simp] theorem State.forgetSearch_vseed : (s.forgetSearch).vseed = s.vseed := rfl
@[simp] theorem State.forgetSearch_vct : (s.forgetSearch).vct = s.vct := rfl
@[simp] theorem State.forgetSearch_vkp : (s.forgetSearch).vkp = s.vkp := rfl
@[simp] theorem State.forgetSearch_sres : (s.forgetSearch).sres = s.sres := rfl
@[simp] theorem State.forgetSearch_res : (s.forgetSearch).res = s.res := rfl
@[simp] theorem State.forgetSearch_err : (s.forgetSearch).err = s.err := rfl
@[simp] theorem State.forgetSearch_ecode : (s.forgetSearch).ecode = s.ecode := rfl
@[simp] theorem State.forgetSearch_cand : (s.forgetSearch).cand = Config.freeCand s.freeTick := rfl
@[simp] theorem State.forgetSearch_idx : (s.forgetSearch).idx = Config.freeIdx s.freeTick := rfl
@[simp] theorem State.forgetSearch_busy : (s.forgetSearch).busy = s.busy := rfl
@[simp] theorem State.forgetSearch_inbox : (s.forgetSearch).inbox = s.inbox := rfl
@[simp] theorem State.forgetSearch_rspLog : (s.forgetSearch).rspLog = s.rspLog := rfl
@[simp] theorem State.forgetSearch_freeTick : (s.forgetSearch).freeTick = s.freeTick + 1 := rfl

@[simp] theorem State.endSearch_found_lfsr (y : YWord) : (s.endSearch (.found y)).lfsr = ⟨Config.freeLfsrX s.freeTick, Config.freeLfsrY s.freeTick, Config.freeLfsrZ s.freeTick⟩ := rfl
@[simp] theorem State.endSearch_found_gv (y : YWord) : (s.endSearch (.found y)).gv = false := rfl
@[simp] theorem State.endSearch_found_tap (y : YWord) : (s.endSearch (.found y)).tap = s.tap := rfl
@[simp] theorem State.endSearch_found_clk (y : YWord) : (s.endSearch (.found y)).clk = s.clk := rfl
@[simp] theorem State.endSearch_found_seed (y : YWord) : (s.endSearch (.found y)).seed = s.seed := rfl
@[simp] theorem State.endSearch_found_ct (y : YWord) : (s.endSearch (.found y)).ct = s.ct := rfl
@[simp] theorem State.endSearch_found_kp (y : YWord) : (s.endSearch (.found y)).kp = s.kp := rfl
@[simp] theorem State.endSearch_found_vtap (y : YWord) : (s.endSearch (.found y)).vtap = s.vtap := rfl
@[simp] theorem State.endSearch_found_vclk (y : YWord) : (s.endSearch (.found y)).vclk = s.vclk := rfl
@[simp] theorem State.endSearch_found_vseed (y : YWord) : (s.endSearch (.found y)).vseed = s.vseed := rfl
@[simp] theorem State.endSearch_found_vct (y : YWord) : (s.endSearch (.found y)).vct = s.vct := rfl
@[simp] theorem State.endSearch_found_vkp (y : YWord) : (s.endSearch (.found y)).vkp = s.vkp := rfl
@[simp] theorem State.endSearch_found_sres (y : YWord) : (s.endSearch (.found y)).sres = .found := rfl
@[simp] theorem State.endSearch_found_res (y : YWord) : (s.endSearch (.found y)).res = y := rfl
@[simp] theorem State.endSearch_found_err (y : YWord) : (s.endSearch (.found y)).err = s.err := rfl
@[simp] theorem State.endSearch_found_ecode (y : YWord) : (s.endSearch (.found y)).ecode = s.ecode := rfl
@[simp] theorem State.endSearch_found_cand (y : YWord) : (s.endSearch (.found y)).cand = Config.freeCand s.freeTick := rfl
@[simp] theorem State.endSearch_found_idx (y : YWord) : (s.endSearch (.found y)).idx = Config.freeIdx s.freeTick := rfl
@[simp] theorem State.endSearch_found_busy (y : YWord) : (s.endSearch (.found y)).busy = false := rfl
@[simp] theorem State.endSearch_found_inbox (y : YWord) : (s.endSearch (.found y)).inbox = s.inbox := rfl
@[simp] theorem State.endSearch_found_rspLog (y : YWord) : (s.endSearch (.found y)).rspLog = s.rspLog ++ [rspWord codeFound (toData y)] := rfl
@[simp] theorem State.endSearch_found_freeTick (y : YWord) : (s.endSearch (.found y)).freeTick = s.freeTick + 1 := rfl

@[simp] theorem State.endSearch_exhausted_lfsr : (s.endSearch .exhausted).lfsr = ⟨Config.freeLfsrX s.freeTick, Config.freeLfsrY s.freeTick, Config.freeLfsrZ s.freeTick⟩ := rfl
@[simp] theorem State.endSearch_exhausted_gv : (s.endSearch .exhausted).gv = false := rfl
@[simp] theorem State.endSearch_exhausted_tap : (s.endSearch .exhausted).tap = s.tap := rfl
@[simp] theorem State.endSearch_exhausted_clk : (s.endSearch .exhausted).clk = s.clk := rfl
@[simp] theorem State.endSearch_exhausted_seed : (s.endSearch .exhausted).seed = s.seed := rfl
@[simp] theorem State.endSearch_exhausted_ct : (s.endSearch .exhausted).ct = s.ct := rfl
@[simp] theorem State.endSearch_exhausted_kp : (s.endSearch .exhausted).kp = s.kp := rfl
@[simp] theorem State.endSearch_exhausted_vtap : (s.endSearch .exhausted).vtap = s.vtap := rfl
@[simp] theorem State.endSearch_exhausted_vclk : (s.endSearch .exhausted).vclk = s.vclk := rfl
@[simp] theorem State.endSearch_exhausted_vseed : (s.endSearch .exhausted).vseed = s.vseed := rfl
@[simp] theorem State.endSearch_exhausted_vct : (s.endSearch .exhausted).vct = s.vct := rfl
@[simp] theorem State.endSearch_exhausted_vkp : (s.endSearch .exhausted).vkp = s.vkp := rfl
@[simp] theorem State.endSearch_exhausted_sres : (s.endSearch .exhausted).sres = .exhausted := rfl
@[simp] theorem State.endSearch_exhausted_res : (s.endSearch .exhausted).res = s.res := rfl
@[simp] theorem State.endSearch_exhausted_err : (s.endSearch .exhausted).err = s.err := rfl
@[simp] theorem State.endSearch_exhausted_ecode : (s.endSearch .exhausted).ecode = s.ecode := rfl
@[simp] theorem State.endSearch_exhausted_cand : (s.endSearch .exhausted).cand = Config.freeCand s.freeTick := rfl
@[simp] theorem State.endSearch_exhausted_idx : (s.endSearch .exhausted).idx = Config.freeIdx s.freeTick := rfl
@[simp] theorem State.endSearch_exhausted_busy : (s.endSearch .exhausted).busy = false := rfl
@[simp] theorem State.endSearch_exhausted_inbox : (s.endSearch .exhausted).inbox = s.inbox := rfl
@[simp] theorem State.endSearch_exhausted_rspLog : (s.endSearch .exhausted).rspLog = s.rspLog ++ [rspWord codeExhausted 0] := rfl
@[simp] theorem State.endSearch_exhausted_freeTick : (s.endSearch .exhausted).freeTick = s.freeTick + 1 := rfl

@[simp] theorem State.withInbox_lfsr (l : List HostInput) : (s.withInbox l).lfsr = s.lfsr := rfl
@[simp] theorem State.withInbox_gv (l : List HostInput) : (s.withInbox l).gv = s.gv := rfl
@[simp] theorem State.withInbox_tap (l : List HostInput) : (s.withInbox l).tap = s.tap := rfl
@[simp] theorem State.withInbox_clk (l : List HostInput) : (s.withInbox l).clk = s.clk := rfl
@[simp] theorem State.withInbox_seed (l : List HostInput) : (s.withInbox l).seed = s.seed := rfl
@[simp] theorem State.withInbox_ct (l : List HostInput) : (s.withInbox l).ct = s.ct := rfl
@[simp] theorem State.withInbox_kp (l : List HostInput) : (s.withInbox l).kp = s.kp := rfl
@[simp] theorem State.withInbox_vtap (l : List HostInput) : (s.withInbox l).vtap = s.vtap := rfl
@[simp] theorem State.withInbox_vclk (l : List HostInput) : (s.withInbox l).vclk = s.vclk := rfl
@[simp] theorem State.withInbox_vseed (l : List HostInput) : (s.withInbox l).vseed = s.vseed := rfl
@[simp] theorem State.withInbox_vct (l : List HostInput) : (s.withInbox l).vct = s.vct := rfl
@[simp] theorem State.withInbox_vkp (l : List HostInput) : (s.withInbox l).vkp = s.vkp := rfl
@[simp] theorem State.withInbox_sres (l : List HostInput) : (s.withInbox l).sres = s.sres := rfl
@[simp] theorem State.withInbox_res (l : List HostInput) : (s.withInbox l).res = s.res := rfl
@[simp] theorem State.withInbox_err (l : List HostInput) : (s.withInbox l).err = s.err := rfl
@[simp] theorem State.withInbox_ecode (l : List HostInput) : (s.withInbox l).ecode = s.ecode := rfl
@[simp] theorem State.withInbox_cand (l : List HostInput) : (s.withInbox l).cand = s.cand := rfl
@[simp] theorem State.withInbox_idx (l : List HostInput) : (s.withInbox l).idx = s.idx := rfl
@[simp] theorem State.withInbox_busy (l : List HostInput) : (s.withInbox l).busy = s.busy := rfl
@[simp] theorem State.withInbox_inbox (l : List HostInput) : (s.withInbox l).inbox = l := rfl
@[simp] theorem State.withInbox_rspLog (l : List HostInput) : (s.withInbox l).rspLog = s.rspLog := rfl
@[simp] theorem State.withInbox_freeTick (l : List HostInput) : (s.withInbox l).freeTick = s.freeTick := rfl

@[simp] theorem State.resetCore_lfsr : (s.resetCore).lfsr = State.reset.lfsr := rfl
@[simp] theorem State.resetCore_gv : (s.resetCore).gv = State.reset.gv := rfl
@[simp] theorem State.resetCore_tap : (s.resetCore).tap = State.reset.tap := rfl
@[simp] theorem State.resetCore_clk : (s.resetCore).clk = State.reset.clk := rfl
@[simp] theorem State.resetCore_seed : (s.resetCore).seed = State.reset.seed := rfl
@[simp] theorem State.resetCore_ct : (s.resetCore).ct = State.reset.ct := rfl
@[simp] theorem State.resetCore_kp : (s.resetCore).kp = State.reset.kp := rfl
@[simp] theorem State.resetCore_vtap : (s.resetCore).vtap = State.reset.vtap := rfl
@[simp] theorem State.resetCore_vclk : (s.resetCore).vclk = State.reset.vclk := rfl
@[simp] theorem State.resetCore_vseed : (s.resetCore).vseed = State.reset.vseed := rfl
@[simp] theorem State.resetCore_vct : (s.resetCore).vct = State.reset.vct := rfl
@[simp] theorem State.resetCore_vkp : (s.resetCore).vkp = State.reset.vkp := rfl
@[simp] theorem State.resetCore_sres : (s.resetCore).sres = State.reset.sres := rfl
@[simp] theorem State.resetCore_res : (s.resetCore).res = State.reset.res := rfl
@[simp] theorem State.resetCore_err : (s.resetCore).err = State.reset.err := rfl
@[simp] theorem State.resetCore_ecode : (s.resetCore).ecode = State.reset.ecode := rfl
@[simp] theorem State.resetCore_cand : (s.resetCore).cand = State.reset.cand := rfl
@[simp] theorem State.resetCore_idx : (s.resetCore).idx = State.reset.idx := rfl
@[simp] theorem State.resetCore_busy : (s.resetCore).busy = State.reset.busy := rfl
@[simp] theorem State.resetCore_inbox : (s.resetCore).inbox = s.inbox := rfl
@[simp] theorem State.resetCore_rspLog : (s.resetCore).rspLog = s.rspLog := rfl
@[simp] theorem State.resetCore_freeTick : (s.resetCore).freeTick = s.freeTick := rfl

@[simp] theorem State.present_lfsr (w : CmdWord) : (s.present w).lfsr = s.lfsr := rfl
@[simp] theorem State.present_gv (w : CmdWord) : (s.present w).gv = s.gv := rfl
@[simp] theorem State.present_tap (w : CmdWord) : (s.present w).tap = s.tap := rfl
@[simp] theorem State.present_clk (w : CmdWord) : (s.present w).clk = s.clk := rfl
@[simp] theorem State.present_seed (w : CmdWord) : (s.present w).seed = s.seed := rfl
@[simp] theorem State.present_ct (w : CmdWord) : (s.present w).ct = s.ct := rfl
@[simp] theorem State.present_kp (w : CmdWord) : (s.present w).kp = s.kp := rfl
@[simp] theorem State.present_vtap (w : CmdWord) : (s.present w).vtap = s.vtap := rfl
@[simp] theorem State.present_vclk (w : CmdWord) : (s.present w).vclk = s.vclk := rfl
@[simp] theorem State.present_vseed (w : CmdWord) : (s.present w).vseed = s.vseed := rfl
@[simp] theorem State.present_vct (w : CmdWord) : (s.present w).vct = s.vct := rfl
@[simp] theorem State.present_vkp (w : CmdWord) : (s.present w).vkp = s.vkp := rfl
@[simp] theorem State.present_sres (w : CmdWord) : (s.present w).sres = s.sres := rfl
@[simp] theorem State.present_res (w : CmdWord) : (s.present w).res = s.res := rfl
@[simp] theorem State.present_err (w : CmdWord) : (s.present w).err = s.err := rfl
@[simp] theorem State.present_ecode (w : CmdWord) : (s.present w).ecode = s.ecode := rfl
@[simp] theorem State.present_cand (w : CmdWord) : (s.present w).cand = s.cand := rfl
@[simp] theorem State.present_idx (w : CmdWord) : (s.present w).idx = s.idx := rfl
@[simp] theorem State.present_busy (w : CmdWord) : (s.present w).busy = false := rfl
@[simp] theorem State.present_inbox (w : CmdWord) : (s.present w).inbox = .command w :: s.inbox := rfl
@[simp] theorem State.present_rspLog (w : CmdWord) : (s.present w).rspLog = s.rspLog := rfl
@[simp] theorem State.present_freeTick (w : CmdWord) : (s.present w).freeTick = s.freeTick := rfl

@[simp] theorem State.enterSearch_lfsr : (s.enterSearch).lfsr = s.lfsr := rfl
@[simp] theorem State.enterSearch_gv : (s.enterSearch).gv = false := rfl
@[simp] theorem State.enterSearch_tap : (s.enterSearch).tap = s.tap := rfl
@[simp] theorem State.enterSearch_clk : (s.enterSearch).clk = s.clk := rfl
@[simp] theorem State.enterSearch_seed : (s.enterSearch).seed = s.seed := rfl
@[simp] theorem State.enterSearch_ct : (s.enterSearch).ct = s.ct := rfl
@[simp] theorem State.enterSearch_kp : (s.enterSearch).kp = s.kp := rfl
@[simp] theorem State.enterSearch_vtap : (s.enterSearch).vtap = s.vtap := rfl
@[simp] theorem State.enterSearch_vclk : (s.enterSearch).vclk = s.vclk := rfl
@[simp] theorem State.enterSearch_vseed : (s.enterSearch).vseed = s.vseed := rfl
@[simp] theorem State.enterSearch_vct : (s.enterSearch).vct = s.vct := rfl
@[simp] theorem State.enterSearch_vkp : (s.enterSearch).vkp = s.vkp := rfl
@[simp] theorem State.enterSearch_sres : (s.enterSearch).sres = .noResult := rfl
@[simp] theorem State.enterSearch_res : (s.enterSearch).res = s.res := rfl
@[simp] theorem State.enterSearch_err : (s.enterSearch).err = s.err := rfl
@[simp] theorem State.enterSearch_ecode : (s.enterSearch).ecode = s.ecode := rfl
@[simp] theorem State.enterSearch_cand : (s.enterSearch).cand = 0 := rfl
@[simp] theorem State.enterSearch_idx : (s.enterSearch).idx = s.idx := rfl
@[simp] theorem State.enterSearch_busy : (s.enterSearch).busy = true := rfl
@[simp] theorem State.enterSearch_inbox : (s.enterSearch).inbox = s.inbox := rfl
@[simp] theorem State.enterSearch_rspLog : (s.enterSearch).rspLog = s.rspLog := rfl
@[simp] theorem State.enterSearch_freeTick : (s.enterSearch).freeTick = s.freeTick := rfl

@[simp] theorem State.loadCandidate_lfsr : (s.loadCandidate).lfsr = candidateGen s.seed.x (s.cand.setWidth 22) s.seed.z := rfl
@[simp] theorem State.loadCandidate_gv : (s.loadCandidate).gv = s.gv := rfl
@[simp] theorem State.loadCandidate_tap : (s.loadCandidate).tap = s.tap := rfl
@[simp] theorem State.loadCandidate_clk : (s.loadCandidate).clk = s.clk := rfl
@[simp] theorem State.loadCandidate_seed : (s.loadCandidate).seed = s.seed := rfl
@[simp] theorem State.loadCandidate_ct : (s.loadCandidate).ct = s.ct := rfl
@[simp] theorem State.loadCandidate_kp : (s.loadCandidate).kp = s.kp := rfl
@[simp] theorem State.loadCandidate_vtap : (s.loadCandidate).vtap = s.vtap := rfl
@[simp] theorem State.loadCandidate_vclk : (s.loadCandidate).vclk = s.vclk := rfl
@[simp] theorem State.loadCandidate_vseed : (s.loadCandidate).vseed = s.vseed := rfl
@[simp] theorem State.loadCandidate_vct : (s.loadCandidate).vct = s.vct := rfl
@[simp] theorem State.loadCandidate_vkp : (s.loadCandidate).vkp = s.vkp := rfl
@[simp] theorem State.loadCandidate_sres : (s.loadCandidate).sres = s.sres := rfl
@[simp] theorem State.loadCandidate_res : (s.loadCandidate).res = s.res := rfl
@[simp] theorem State.loadCandidate_err : (s.loadCandidate).err = s.err := rfl
@[simp] theorem State.loadCandidate_ecode : (s.loadCandidate).ecode = s.ecode := rfl
@[simp] theorem State.loadCandidate_cand : (s.loadCandidate).cand = s.cand := rfl
@[simp] theorem State.loadCandidate_idx : (s.loadCandidate).idx = 0 := rfl
@[simp] theorem State.loadCandidate_busy : (s.loadCandidate).busy = s.busy := rfl
@[simp] theorem State.loadCandidate_inbox : (s.loadCandidate).inbox = s.inbox := rfl
@[simp] theorem State.loadCandidate_rspLog : (s.loadCandidate).rspLog = s.rspLog := rfl
@[simp] theorem State.loadCandidate_freeTick : (s.loadCandidate).freeTick = s.freeTick := rfl

end Sys2Proof.Machine
end

