-- ==== Sys2Proof/Laws/Ops.lean ====
section
/-! SUPPORT. Laws/Ops.lean: for each shared operation one lemma that says what it can do; the provers cite these instead of
unfolding the operations. -/

namespace Sys2Proof.Machine

/-- The bits of a response word (R72). -/
theorem rspWord_getLsbD (code : BitVec 4) (data : Payload) (i : Nat) :
    (rspWord code data).getLsbD i =
      if i < 24 then data.getLsbD i else if i < 28 then false else code.getLsbD (i - 28) := by
  unfold rspWord
  rw [BitVec.getLsbD_append]
  by_cases h : i < 24
  · simp [h]
  · rw [if_neg h, if_neg h, BitVec.getLsbD_append]
    by_cases h2 : i < 28
    · have : i - 24 < 4 := by omega
      simp [h2, this]
    · have : ¬ i - 24 < 4 := by omega
      have e : i - 24 - 4 = i - 28 := by omega
      simp [h2, this, e]

/-- An OK response is the zero-extended data (R72, R73). -/
theorem rspWord_codeOk (data : Payload) : rspWord codeOk data = data.setWidth 32 := by
  apply BitVec.eq_of_getLsbD_eq
  intro i hi
  rw [rspWord_getLsbD, BitVec.getLsbD_setWidth]
  by_cases h : i < 24
  · simp [h, hi]
  · have hz : data.getLsbD i = false := BitVec.getLsbD_of_ge data i (by omega)
    simp [h, codeOk, hz]

theorem rspWord_error (e : CmdError) : rspWord e.code 0 = e.code ++ (0 : BitVec 28) := by cases e <;> decide

/-- The code of a response word (R72). -/
@[simp] theorem rspCode_rspWord (code : BitVec 4) (data : Payload) : rspCode (rspWord code data) = code := by
  apply BitVec.eq_of_getLsbD_eq
  intro i hi
  have a : ¬ 28 + i < 24 := by omega
  have b : ¬ 28 + i < 28 := by omega
  simp [rspCode, rspWord_getLsbD, hi, a]

/-- The data of a response word (R72). -/
@[simp] theorem data_rspWord (code : BitVec 4) (data : Payload) : (rspWord code data).extractLsb' 0 24 = data := by
  apply BitVec.eq_of_getLsbD_eq
  intro i hi
  simp [rspWord_getLsbD, hi]

/-- `respond OK(data)` appends the zero-extended data and changes nothing else. -/
theorem State.ok_eq_answered (s : State) (data : Payload) : s.ok data = s.answered (data.setWidth 32) := by
  show s.answered (rspWord codeOk data) = _
  rw [rspWord_codeOk]

/-- Ending in an error gives the state R224 describes. -/
theorem State.raise_eq_afterError (s : State) (e : CmdError) : s.raise e = s.afterError e.code := by
  show { s with err := true, ecode := _, rspLog := s.rspLog ++ [rspWord e.code 0] } = _
  rw [rspWord_error]
  rfl

/-- A read answers the value or ends in ERR_UNINIT (R211). -/
theorem State.readOut_eq (s : State) (valid : Bool) (data : Payload) :
    s.readOut valid data = if valid then s.answered (data.setWidth 32) else s.afterError 10 := by
  unfold State.readOut
  rw [s.ok_eq_answered, s.raise_eq_afterError]
  rfl

/-- SETCLK writes an index in range or ends in ERR_OPERAND (R124). -/
theorem setClkIndex_eq (r : Reg) (idx : Nat) (s : State) :
    setClkIndex r idx s =
      if idx ≤ r.width - 1 then (s.writeClk r (BitVec.ofNat 5 idx)).answered 0 else s.afterError 9 := by
  unfold setClkIndex indexInRange
  rw [State.ok_eq_answered, s.raise_eq_afterError]
  by_cases h : idx ≤ r.width - 1
  · simp [h]
  · simp [h, CmdError.code]

/-- STEP and CRYPT make one generator step or end in ERR_UNINIT (R135, R152). -/
theorem stepWith_eq (b : Bool) (s : State) :
    stepWith b s =
      if s.gv then (s.moveTo (genStep s.cfg s.lfsr).1).answered (if b != (genStep s.cfg s.lfsr).2 then 1 else 0)
      else s.afterError 10 := by
  unfold stepWith
  rw [State.ok_eq_answered, s.raise_eq_afterError]
  congr 2
  cases b <;> cases (genStep s.cfg s.lfsr).2 <;> decide

/-- A SEARCH that ends touches nothing but what R166 names. -/
theorem State.endSearch_frame (s : State) (o : SearchOutcome) :
    s.endSearch o = { s with
      lfsr := (s.endSearch o).lfsr, gv := false, sres := (s.endSearch o).sres, res := (s.endSearch o).res,
      cand := (s.endSearch o).cand, idx := (s.endSearch o).idx, busy := false,
      rspLog := (s.endSearch o).rspLog, freeTick := (s.endSearch o).freeTick } := by
  cases o <;> rfl

/-- What one step can do: a reset, a trial of a search in progress, a command, or nothing (R57, R234, R250). -/
theorem step_cases {s t : State} (h : step s = .next t) :
    (∃ rest, s.inbox = .reset :: rest ∧ t = (s.withInbox rest).resetCore) ∨
      (s.busy = true ∧ (∀ rest, s.inbox ≠ .reset :: rest) ∧ t = searchTick s) ∨
      (s.busy = false ∧ ∃ w rest, s.inbox = .command w :: rest ∧ runWord w (s.withInbox rest) = .next t) ∨
      (s.busy = false ∧ ∃ w rest, s.inbox = .cutOff w :: rest ∧ t = (s.withInbox rest).resetCore) ∨
      (s.busy = false ∧ s.inbox = [] ∧ t = s) := by
  unfold step advance at h
  split at h <;> rename_i heq
  · exact .inl ⟨_, heq, by cases h; rfl⟩
  · rcases hb : s.busy with _ | _ <;> simp only [hb] at h
    · exact .inr (.inr (.inl ⟨rfl, _, _, heq, h⟩))
    · exact .inr (.inl ⟨rfl, by simp [heq], by cases h; rfl⟩)
  · rcases hb : s.busy with _ | _ <;> simp only [hb] at h
    · exact .inr (.inr (.inr (.inl ⟨rfl, _, _, heq, by cases h; rfl⟩)))
    · exact .inr (.inl ⟨rfl, by simp [heq], by cases h; rfl⟩)
  · rcases hb : s.busy with _ | _ <;> simp only [hb] at h
    · exact .inr (.inr (.inr (.inr ⟨rfl, heq, by cases h; rfl⟩)))
    · exact .inr (.inl ⟨rfl, by simp [heq], by cases h; rfl⟩)

/-- How a command ends: in an error, in an OK response that leaves ERR and ECODE alone, or as a SEARCH (R57, R73). -/
theorem exec_cases {i : Instr} {s t : State} (h : exec i s = .next t) :
    (∃ e, t = s.raise e) ∨
      (∃ data, t.rspLog = s.rspLog ++ [rspWord codeOk data] ∧ t.err = s.err ∧ t.ecode = s.ecode ∧ t.inbox = s.inbox ∧
        t.busy = s.busy) ∨
      (∃ o, i = .search ∧ s.searchReady = true ∧ t = s.endSearch o) := by
  have ok : ∀ (u : State) (d : Payload), u.rspLog = s.rspLog → u.err = s.err → u.ecode = s.ecode → u.inbox = s.inbox →
      u.busy = s.busy → ∃ data, (u.ok d).rspLog = s.rspLog ++ [rspWord codeOk data] ∧ (u.ok d).err = s.err ∧
        (u.ok d).ecode = s.ecode ∧ (u.ok d).inbox = s.inbox ∧ (u.ok d).busy = s.busy := by
    intro u d h1 h2 h3 h4 h5
    exact ⟨d, by simp [h1], h2, h3, h4, h5⟩
  have read : ∀ v d, (∃ e, s.readOut v d = s.raise e) ∨ s.readOut v d = s.ok d := by
    intro v d
    cases v
    · exact .inl ⟨_, rfl⟩
    · exact .inr rfl
  have clk : ∀ r k, (∃ e, setClkIndex r k s = s.raise e) ∨ setClkIndex r k s = (s.writeClk r (BitVec.ofNat 5 k)).ok 0 := by
    intro r k
    unfold setClkIndex
    split
    · exact .inr rfl
    · exact .inl ⟨_, rfl⟩
  have gen : ∀ b, (∃ e, stepWith b s = s.raise e) ∨ ∃ g d, stepWith b s = (s.moveTo g).ok d := by
    intro b
    unfold stepWith
    split
    · exact .inr ⟨_, _, rfl⟩
    · exact .inl ⟨_, rfl⟩
  cases i
  case search =>
    have h' : (if s.searchReady then s.endSearch (searchAll s.cfg s.seed.x s.seed.z s.ct s.kp) else s.raise .uninit) = t :=
      Host.Outcome.next.inj h
    split at h'
    · exact .inr (.inr ⟨_, rfl, by assumption, h'.symm⟩)
    · exact .inl ⟨_, h'.symm⟩
  case init =>
    have h' : (if s.initReady then s.construct.ok 0 else s.raise .uninit) = t := Host.Outcome.next.inj h
    split at h'
    · subst h'; exact .inr (.inl (ok s.construct 0 rfl rfl rfl rfl rfl))
    · exact .inl ⟨_, h'.symm⟩
  case setclkX | setclkY | setclkZ =>
    cases h
    rcases clk _ _ with h | h
    · exact .inl h
    · rw [h]; exact .inr (.inl (ok _ 0 rfl rfl rfl rfl rfl))
  case step | crypt =>
    cases h
    rcases gen _ with h | ⟨g, d, h⟩
    · exact .inl h
    · rw [h]; exact .inr (.inl (ok _ d rfl rfl rfl rfl rfl))
  case nop | settapX | settapY | settapZ | seedX | seedY | seedZ | setct | setkp =>
    cases h; exact .inr (.inl (ok _ 0 rfl rfl rfl rfl rfl))
  all_goals
    cases h
    rcases read _ _ with h | h
    · exact .inl h
    · rw [h]; exact .inr (.inl (ok s _ rfl rfl rfl rfl rfl))

/-- A run whose first step gives `t` goes on from `t`. -/
theorem core_run_succ {s t : State} (h : step s = .next t) (n : Nat) :
    Host.Core.run core (n + 1) s = Host.Core.run core n t := by
  have h' : core.step s = .next t := h
  simp only [Host.Core.run, h']

end Sys2Proof.Machine
end

