-- ==== Sys2Proof/Laws/PerInstr.lean ====
section
/-! SUPPORT. Laws/PerInstr.lean: per instruction, the encoder's word matches the row of the opcode map that has its mnemonic. -/

namespace Sys2Proof.Laws.Encoding

/-- The word that the encoder assembles from the fields (R70, R76) is accepted by the row of R77 with the instruction's
mnemonic. -/
def Statement (i : Instr) : Prop :=
  i.wellFormed = true → (rows.find? fun r => r.mnemonic == i.mnemonic).any (fun r => r.accepts (encode i)) = true

/-- A command word with a payload of `n` bits, under the mask that keeps every bit above the payload. -/
theorem cmdWord_masked (op : BitVec 4) (r : BitVec 2) {n : Nat} (hn : n ≤ 24) (m : BitVec n) :
    cmdWord op r (m.setWidth 24) &&& (BitVec.allOnes 32 <<< n) = op ++ r ++ (0 : BitVec 26) := by
  apply BitVec.eq_of_getLsbD_eq
  intro i hi
  unfold cmdWord
  simp only [BitVec.getLsbD_and, BitVec.getLsbD_append, BitVec.getLsbD_shiftLeft, BitVec.getLsbD_setWidth]
  by_cases h : i < 24
  · have h26 : i < 26 := by omega
    by_cases hni : i < n
    · simp [h, h26, hni]
    · have hz : m.getLsbD i = false := BitVec.getLsbD_of_ge m i (by omega)
      simp [h, h26, hz]
  · have hni : ¬ i < n := by omega
    have hlt : i - n < 32 := by omega
    by_cases h26 : i < 26
    · have h2 : i - 24 < 2 := by omega
      simp [h, h26, h2]
    · have h2 : ¬ i - 24 < 2 := by omega
      have e : i - 24 - 2 = i - 26 := by omega
      rw [BitVec.getLsbD_allOnes]
      simp [h, h26, h2, e, hi, hni, hlt]

/-- The payload of a SETCLK word is a 5-bit index. -/
theorem index_payload {idx : Nat} (h : idx < 32) : BitVec.ofNat 24 idx = (BitVec.ofNat 5 idx).setWidth 24 := by
  apply BitVec.eq_of_toNat_eq
  simp
  omega

/-- The row's mask and bits, put together with `cmdWord_masked`. -/
theorem accepts_of_masked (op : BitVec 4) (r : BitVec 2) {n : Nat} (hn : n ≤ 24) (m : BitVec n) (mask bits : CmdWord)
    (hm : mask = BitVec.allOnes 32 <<< n) (hb : bits = op ++ r ++ (0 : BitVec 26)) :
    (cmdWord op r (m.setWidth 24) &&& mask == bits) = true := by
  rw [hm, hb, cmdWord_masked op r hn m, beq_self_eq_true]

theorem nop : Statement .nop := fun _ => by decide

theorem settapX (v : XWord) : Statement (.settapX v) := fun _ =>
  accepts_of_masked 1 0 (by decide) v _ _ (by decide) (by decide)

theorem settapY (v : YWord) : Statement (.settapY v) := fun _ =>
  accepts_of_masked 1 1 (by decide) v _ _ (by decide) (by decide)

theorem settapZ (v : ZWord) : Statement (.settapZ v) := fun _ =>
  accepts_of_masked 1 2 (by decide) v _ _ (by decide) (by decide)

theorem setclkX (idx : Nat) : Statement (.setclkX idx) := fun h => by
  have e := index_payload (of_decide_eq_true h)
  show (cmdWord 2 0 (BitVec.ofNat 24 idx) &&& _ == _) = true
  rw [e]
  exact accepts_of_masked 2 0 (by decide) _ _ _ (by decide) (by decide)

theorem setclkY (idx : Nat) : Statement (.setclkY idx) := fun h => by
  have e := index_payload (of_decide_eq_true h)
  show (cmdWord 2 1 (BitVec.ofNat 24 idx) &&& _ == _) = true
  rw [e]
  exact accepts_of_masked 2 1 (by decide) _ _ _ (by decide) (by decide)

theorem setclkZ (idx : Nat) : Statement (.setclkZ idx) := fun h => by
  have e := index_payload (of_decide_eq_true h)
  show (cmdWord 2 2 (BitVec.ofNat 24 idx) &&& _ == _) = true
  rw [e]
  exact accepts_of_masked 2 2 (by decide) _ _ _ (by decide) (by decide)

theorem seedX (v : XWord) : Statement (.seedX v) := fun _ =>
  accepts_of_masked 3 0 (by decide) v _ _ (by decide) (by decide)

theorem seedY (v : YWord) : Statement (.seedY v) := fun _ =>
  accepts_of_masked 3 1 (by decide) v _ _ (by decide) (by decide)

theorem seedZ (v : ZWord) : Statement (.seedZ v) := fun _ =>
  accepts_of_masked 3 2 (by decide) v _ _ (by decide) (by decide)

theorem init : Statement .init := fun _ => by decide

theorem step : Statement .step := fun _ => by decide

theorem crypt (b : Bool) : Statement (.crypt b) := fun _ =>
  accepts_of_masked 6 0 (by decide) (BitVec.ofBool b) _ _ (by decide) (by decide)

theorem setct (p : Payload) : Statement (.setct p) := fun _ => by
  have h := accepts_of_masked 7 0 (by decide) p 0xFF000000 0x70000000 (by decide) (by decide)
  rwa [BitVec.setWidth_eq] at h

theorem setkp (p : Payload) : Statement (.setkp p) := fun _ => by
  have h := accepts_of_masked 8 0 (by decide) p 0xFF000000 0x80000000 (by decide) (by decide)
  rwa [BitVec.setWidth_eq] at h

theorem search : Statement .search := fun _ => by decide

theorem rdStatus : Statement .rdStatus := fun _ => by decide

theorem rdRes : Statement .rdRes := fun _ => by decide

theorem rdTapX : Statement .rdTapX := fun _ => by decide

theorem rdTapY : Statement .rdTapY := fun _ => by decide

theorem rdTapZ : Statement .rdTapZ := fun _ => by decide

theorem rdClkX : Statement .rdClkX := fun _ => by decide

theorem rdClkY : Statement .rdClkY := fun _ => by decide

theorem rdClkZ : Statement .rdClkZ := fun _ => by decide

theorem rdSeedX : Statement .rdSeedX := fun _ => by decide

theorem rdSeedY : Statement .rdSeedY := fun _ => by decide

theorem rdSeedZ : Statement .rdSeedZ := fun _ => by decide

theorem rdLfsrX : Statement .rdLfsrX := fun _ => by decide

theorem rdLfsrY : Statement .rdLfsrY := fun _ => by decide

theorem rdLfsrZ : Statement .rdLfsrZ := fun _ => by decide

theorem rdCt : Statement .rdCt := fun _ => by decide

theorem rdKp : Statement .rdKp := fun _ => by decide

end Sys2Proof.Laws.Encoding
end

