-- ==== Sys2Proof/Laws/Search.lean ====
section
/-! SUPPORT. Laws/Search.lean: what the scan answers, and what the turns of a trial change. -/

namespace Sys2Proof.Machine

/-- What a scan of `n` candidates from `y` on answers (R161, R162): the least that passes, or that none does. -/
theorem searchFrom_spec (c : Cfg) (sx : XWord) (sz : ZWord) (ct kp : Payload) (n y : Nat) :
    (∃ k, y ≤ k ∧ k < y + n ∧ searchFrom c sx sz ct kp n y = .found (BitVec.ofNat 22 k) ∧
        trial c sx (BitVec.ofNat 22 k) sz ct kp = true ∧
        ∀ j, y ≤ j → j < k → trial c sx (BitVec.ofNat 22 j) sz ct kp = false) ∨
      (searchFrom c sx sz ct kp n y = .exhausted ∧
        ∀ j, y ≤ j → j < y + n → trial c sx (BitVec.ofNat 22 j) sz ct kp = false) := by
  induction n generalizing y with
  | zero => exact .inr ⟨rfl, by omega⟩
  | succ n ih =>
    unfold searchFrom
    by_cases h : trial c sx (BitVec.ofNat 22 y) sz ct kp = true
    · exact .inl ⟨y, le_refl _, by omega, by rw [if_pos h], h, by omega⟩
    · rw [if_neg h]
      have h0 : trial c sx (BitVec.ofNat 22 y) sz ct kp = false := by simpa using h
      have step : ∀ j, y ≤ j → (j = y ∨ y + 1 ≤ j) := by omega
      rcases ih (y + 1) with ⟨k, h1, h2, h3, h4, h5⟩ | ⟨h1, h2⟩
      · refine .inl ⟨k, by omega, by omega, h3, h4, fun j hj hk => ?_⟩
        rcases step j hj with rfl | hj'
        · exact h0
        · exact h5 j hj' hk
      · refine .inr ⟨h1, fun j hj hk => ?_⟩
        rcases step j hj with rfl | hj'
        · exact h0
        · exact h2 j hj' (by omega)

/-- The turns of a trial change the working registers and IDX, and nothing else (R168). -/
theorem trialTurns_frame (n : Nat) (s : State) (hit : Bool) :
    ∃ g i, (trialTurns n s hit).1 = { s with lfsr := g, idx := i } := by
  induction n generalizing s hit with
  | zero => exact ⟨s.lfsr, s.idx, rfl⟩
  | succ n ih =>
    obtain ⟨g, i, h⟩ := ih { s with lfsr := (genStep s.cfg s.lfsr).1, idx := s.idx + 1 }
      (hit && (posBit s.ct s.idx.toNat).xor (genStep s.cfg s.lfsr).2 == posBit s.kp s.idx.toNat)
    exact ⟨g, i, by rw [trialTurns, h]⟩

end Sys2Proof.Machine
end

