-- ==== Sys2Proof/Tests/Slice0.lean ====
section
/-! SUPPORT. Tests/Slice0.lean: the model against words and values the spec writes out (95_test_vectors.md and the rules'
examples), and a witness for the hypotheses of every statement. -/

namespace Sys2Proof.Tests

open Sys2Proof.Machine

/-- The state a step or command answers, the reset state if it answers none. -/
def after : Result → State
  | .next t => t
  | _ => State.reset

/-- The last response of the state a step or command answers. -/
def lastRsp (r : Result) : Option RspWord := (after r).rspLog.getLast?

/-- The response to a command word presented in state `s`. -/
def rspTo (s : State) (w : CmdWord) : Option RspWord := lastRsp (step (s.present w))

/-- All of CFG_REF, seeds and prefixes written, generator at the seeds (R9, R175). -/
def ready : State :=
  { State.reset with
    tap := cfgRef.tap, clk := cfgRef.clk, seed := ⟨0x55555, 0x000539, 0x123456⟩, lfsr := ⟨0x55555, 0x000539, 0x123456⟩,
    gv := true, ct := 0x70EEB4, kp := 0x486921, vtap := ⟨true, true, true⟩, vclk := ⟨true, true, true⟩,
    vseed := ⟨true, true, true⟩, vct := true, vkp := true }

/-- The document's scenario (V20): X and Z all zero, ciphertext made with candidate 5. -/
def scenario : State := { ready with seed := ⟨0, 0, 0⟩, vseed := ⟨true, false, true⟩, ct := 0x086921, kp := 0x486921 }

/-! ### WellFormed: an ill-formed term for each check -/

theorem test_wellFormed_setclkX : (Instr.setclkX 32).wellFormed = false ∧ (Instr.setclkX 31).wellFormed = true := by decide
theorem test_wellFormed_setclkY : (Instr.setclkY 32).wellFormed = false ∧ (Instr.setclkY 31).wellFormed = true := by decide
theorem test_wellFormed_setclkZ : (Instr.setclkZ 32).wellFormed = false ∧ (Instr.setclkZ 31).wellFormed = true := by decide

/-! ### Decode: every row, a word written out from R77 -/

theorem test_decode_settap : decode 0x10000027 = .ok (.settapX 0x27) ∧ decode 0x14000003 = .ok (.settapY 0x3) ∧
    decode 0x18008007 = .ok (.settapZ 0x8007) := by decide
theorem test_decode_setclk : decode 0x20000013 = .ok (.setclkX 19) ∧ decode 0x2400000A = .ok (.setclkY 10) ∧
    decode 0x2800001F = .ok (.setclkZ 31) := by decide
theorem test_decode_seed : decode 0x30055555 = .ok (.seedX 0x55555) ∧ decode 0x3407FFFF = .ok (.seedY 0x07FFFF) ∧
    decode 0x38123456 = .ok (.seedZ 0x123456) := by decide
theorem test_decode_run : decode 0x00000000 = .ok .nop ∧ decode 0x40000000 = .ok .init ∧ decode 0x50000000 = .ok .step ∧
    decode 0x60000000 = .ok (.crypt false) ∧ decode 0x60000001 = .ok (.crypt true) := by decide
theorem test_decode_search : decode 0x7070EEB4 = .ok (.setct 0x70EEB4) ∧ decode 0x80486921 = .ok (.setkp 0x486921) ∧
    decode 0x90000000 = .ok .search := by decide
theorem test_decode_read_plain : decode 0xA0000000 = .ok .rdStatus ∧ decode 0xA0000001 = .ok .rdRes ∧
    decode 0xA0000006 = .ok .rdCt ∧ decode 0xA0000007 = .ok .rdKp := by decide
theorem test_decode_read_tap_clk : decode 0xA0000002 = .ok .rdTapX ∧ decode 0xA4000002 = .ok .rdTapY ∧
    decode 0xA8000002 = .ok .rdTapZ ∧ decode 0xA0000003 = .ok .rdClkX ∧ decode 0xA4000003 = .ok .rdClkY ∧
    decode 0xA8000003 = .ok .rdClkZ := by decide
theorem test_decode_read_seed_lfsr : decode 0xA0000004 = .ok .rdSeedX ∧ decode 0xA4000004 = .ok .rdSeedY ∧
    decode 0xA8000004 = .ok .rdSeedZ ∧ decode 0xA0000005 = .ok .rdLfsrX ∧ decode 0xA4000005 = .ok .rdLfsrY ∧
    decode 0xA8000005 = .ok .rdLfsrZ := by decide
/-- The illegal words of V29. -/
theorem test_decode_illegal : ([0x00000001, 0xB0000000, 0xF0000000, 0x1C000001, 0x2C000000, 0x10080000, 0x34400000,
    0x20000020, 0x41000000, 0x60000002, 0xA0000008, 0xA4000000] : List CmdWord).all
      (fun w => match decode w with | .error .noRow => true | .ok _ => false) = true := by decide
theorem test_decodeTableWord : decodeTableWord 32 0x14000003 = some (.settapY 3) ∧ decodeTableWord 32 0xB0000000 = none := by
  decide
/-- The rows' mnemonics are those the instructions carry. -/
theorem test_encode_words : encode (.settapZ 0x8007) = 0x18008007 ∧ encode (.setclkZ 10) = 0x2800000A ∧
    encode (.crypt true) = 0x60000001 ∧ encode .rdLfsrY = 0xA4000005 := by decide

/-! ### The register stage (V1 to V7, R108) -/

theorem test_clock_v1 : clockNext (0x000005 : YWord) 0x000003 = 0x200002 ∧ clockOut (0x000005 : YWord) = true := by decide
theorem test_clock_v2_v3 : clockNext (0x7FFFF : XWord) 0x00027 = 0x3FFFF ∧ clockNext (0x40000 : XWord) 0x00027 = 0x20000 := by
  decide
theorem test_clock_v4_v5 : clockNext (0x00001 : XWord) 0x00027 = 0x40000 ∧ clockNext (0x00020 : XWord) 0x00027 = 0x40010 := by
  decide
theorem test_clock_v6 : clockNext (0x008001 : ZWord) 0x008007 = 0x004000 ∧ clockOut (0x008001 : ZWord) = true := by decide
theorem test_clock_v7 : clockNext (0x2AAAAA : YWord) 0 = 0x155555 ∧ clockNext (0x2AAAAA : YWord) 0x3FFFFF = 0x355555 := by
  decide
/-- The sequence view of V1: positions 19 and 21. -/
theorem test_seq_v1 : (List.range 22).filter (posBit (0x000005 : YWord)) = [19, 21] := by decide

/-! ### The generator (V8, V10 to V14) -/

/-- The eight rows of V8. -/
theorem test_advance_v8 : [maj false false true, maj false true true, maj true false false, maj true false true]
    = [false, true, false, true] := by decide
theorem test_step_v10 : genStep cfgRef ⟨0x55555, 0x000539, 0x123456⟩ = (⟨0x2AAAA, 0x000539, 0x091A2B⟩, false) := by decide
theorem test_step_v11 : genStep cfgAlt ⟨0x55555, 0x000539, 0x123456⟩ = (⟨0x2AAAA, 0x000539, 0x091A2B⟩, false) := by decide
/-- V12, row 2: the first step at which reading the output before the moves would show. -/
theorem test_step_v12_row2 : genStep cfgRef ⟨0x15555, 0x20029C, 0x091A2B⟩ = (⟨0x0AAAA, 0x20029C, 0x048D15⟩, true) := by decide
/-- V14 (b): the output is read after the moves. -/
theorem test_step_v14 : genStep cfgRef ⟨0, 1, 0⟩ = (⟨0, 0x200000, 0⟩, false) := by decide

/-! ### Commands, one step each -/

theorem test_nop : rspTo { State.reset with err := true, ecode := 9 } 0x00000000 = some 0x00000000 := by decide
/-- R106's example: positions 20 and 21 of Y become the taps. -/
theorem test_settapY : (List.range 22).filter (posBit (after (step (State.reset.present 0x14000003))).tap.y) = [20, 21] ∧
    rspTo State.reset 0x14000003 = some 0x00000000 := by decide
theorem test_settapX : (after (step (ready.present 0x10040000))).tap = ⟨0x40000, 3, 0x8007⟩ ∧
    (after (step (ready.present 0x10040000))).gv = false := by decide
theorem test_settapZ : (after (step (State.reset.present 0x18400000))).tap = ⟨0, 0, 0x400000⟩ ∧
    (after (step (State.reset.present 0x18400000))).vtap = ⟨false, false, true⟩ := by decide
/-- V30, the rows of X. -/
theorem test_setclkX : rspTo State.reset 0x20000012 = some 0x00000000 ∧ rspTo State.reset 0x20000013 = some 0x90000000 := by
  decide
theorem test_setclkY : rspTo State.reset 0x24000015 = some 0x00000000 ∧ rspTo State.reset 0x24000016 = some 0x90000000 := by
  decide
theorem test_setclkZ : rspTo State.reset 0x28000016 = some 0x00000000 ∧ rspTo State.reset 0x28000017 = some 0x90000000 ∧
    rspTo State.reset 0x2800001F = some 0x90000000 := by decide
/-- V34: the value already held still kills the generator. -/
theorem test_setclkY_same : (after (step (ready.present 0x2400000A))).gv = false := by decide
/-- R107's example. -/
theorem test_seedY : (List.range 22).filter (posBit (after (step (State.reset.present 0x34000005))).seed.y) = [19, 21] := by
  decide
/-- A seed write does not reach a running generator (R259). -/
theorem test_seedX : (after (step (ready.present 0x30000000))).lfsr = ready.lfsr ∧
    (after (step (ready.present 0x30000000))).seed.x = 0 ∧ (after (step (ready.present 0x30000000))).gv = true := by decide
theorem test_seedZ : (after (step (State.reset.present 0x3807FFFF))).seed = ⟨0, 0, 0x07FFFF⟩ := by decide
theorem test_init : (after (step ({ ready with lfsr := ⟨0, 0, 0⟩, gv := false }.present 0x40000000))).lfsr = ready.seed ∧
    rspTo { ready with vseed := ⟨true, false, true⟩ } 0x40000000 = some 0xA0000000 := by decide
/-- R135's example. -/
theorem test_step : (after (step (ready.present 0x50000000))).lfsr = ⟨0x2AAAA, 0x000539, 0x091A2B⟩ ∧
    rspTo ready 0x50000000 = some 0x00000000 := by decide
theorem test_step_uninit : rspTo State.reset 0x50000000 = some 0xA0000000 := by decide
/-- R152's example. -/
theorem test_crypt : rspTo ready 0x60000001 = some 0x00000001 ∧ rspTo ready 0x60000000 = some 0x00000000 := by decide
theorem test_setct : (after (step (State.reset.present 0x70086921))).ct = 0x086921 ∧
    (after (step (ready.present 0x70086921))).gv = true := by decide
theorem test_setkp : (after (step (State.reset.present 0x80800001))).kp = 0x800001 ∧
    (after (step (State.reset.present 0x80800001))).vkp = true := by decide
/-- V20: the answer is the least match 4, not 5. -/
theorem test_search_v20 : rspTo scenario 0x90000000 = some 0x10000004 := by decide +kernel
/-- V28: GV is lost, SEED[Y] is not written, SRES = FOUND (target 0 of V21 answers FOUND(0)). -/
theorem test_search_state : (after (step ({ scenario with ct := 0, kp := 0, gv := true }.present 0x90000000))).status = 0x00177F ∧
    rspTo { scenario with ct := 0, kp := 0 } 0x90000000 = some 0x10000000 := by decide +kernel
theorem test_search_uninit : rspTo { ready with vkp := false } 0x90000000 = some 0xA0000000 := by decide
theorem test_rdStatus : rspTo ready 0xA0000000 = some 0x00000FFF ∧ rspTo State.reset 0xA0000000 = some 0x00000000 := by decide
theorem test_rdRes : rspTo { ready with sres := .found, res := 0x539 } 0xA0000001 = some 0x00000539 ∧
    rspTo { ready with sres := .exhausted, res := 0x539 } 0xA0000001 = some 0xA0000000 := by decide
theorem test_rdTap : [rspTo ready 0xA0000002, rspTo ready 0xA4000002, rspTo ready 0xA8000002] =
    [some 0x00000027, some 0x00000003, some 0x00008007] := by decide
theorem test_rdClk : [rspTo ready 0xA0000003, rspTo ready 0xA4000003, rspTo ready 0xA8000003, rspTo State.reset 0xA8000003] =
    [some 0x00000008, some 0x0000000A, some 0x0000000A, some 0xA0000000] := by decide
theorem test_rdSeed : [rspTo ready 0xA0000004, rspTo ready 0xA4000004, rspTo ready 0xA8000004] =
    [some 0x00055555, some 0x00000539, some 0x00123456] := by decide
theorem test_rdLfsr : [rspTo ready 0xA0000005, rspTo ready 0xA4000005, rspTo ready 0xA8000005, rspTo State.reset 0xA4000005] =
    [some 0x00055555, some 0x00000539, some 0x00123456, some 0xA0000000] := by decide
theorem test_rdCt_rdKp : [rspTo ready 0xA0000006, rspTo ready 0xA0000007, rspTo State.reset 0xA0000006] =
    [some 0x0070EEB4, some 0x00486921, some 0xA0000000] := by decide
/-- V32: the first error's code stays. -/
theorem test_first_error : (after (step ((after (step (State.reset.present 0x20000013))).present 0xF0000000))).ecode = 9 ∧
    (after (step (State.reset.present 0xB0000000))).ecode = 8 := by decide
/-- P3: the STATUS word after STEP from reset. -/
theorem test_status_error : (after (step (State.reset.present 0x50000000))).status = 0x054000 := by decide
theorem test_reset_input : (after (step { ready with err := true, ecode := 9, busy := true, inbox := [.reset] })).status = 0 := by
  decide
theorem test_withFetchWord : lastRsp (step (ready.withFetchWord 32 0xA4000004)) = some 0x00000539 := by decide

/-! ### Host conversions (V17, V36, V37) -/

theorem test_decrypt_v17 : wordOfSeq 24 (decrypt (seqOfWord (0x486921 : Payload)) (seqOfWord (0x388795 : Payload))) = 0x70EEB4 := by
  decide
theorem test_text_v36 : wordOfSeq 24 (textToBits id [0x48, 0x69, 0x21]) = 0x486921 := by decide
theorem test_text_v37 : bitsToText id (seqOfWord (0x486921 : Payload) ++ [false, true, true]) = [0x48, 0x69, 0x21] ∧
    bitsToText id [true, true, true, true, true, true, true] = [] := by decide

/-! ### Witnesses: concrete values that meet each statement's hypotheses -/

theorem witness_StepRunsDecodedCommand :
    (let s := { ready with inbox := [.command 0x50000000, .reset] };
      s.inbox = .command 0x50000000 :: [.reset] ∧ s.busy = false ∧ decode 0x50000000 = .ok .step) ∧
    decode 0xB0000000 = .error .noRow := by decide

theorem witness_IdleAndBusySteps :
    (State.reset.inbox = [] ∧ State.reset.busy = false) ∧
    (let s := { ready.enterSearch with inbox := [.command 0x00000000] };
      s.busy = true ∧ ∀ rest, s.inbox ≠ .reset :: rest) := by
  refine ⟨by decide, by decide, ?_⟩
  intro rest h
  cases h

theorem witness_ResetInputClears :
    ({ ready.enterSearch with inbox := [.reset] }.inbox = .reset :: []) ∧
    ({ ready with inbox := [.cutOff 0x90000000] }.busy = false ∧
      ∃ w, { ready with inbox := [.cutOff 0x90000000] }.inbox = .cutOff w :: []) :=
  ⟨rfl, rfl, _, rfl⟩

theorem witness_StepKeepsInvariant : ready.Inv ∧ step (ready.present 0) = .next (after (step (ready.present 0))) ∧
    (ready.present 0).Inv := ⟨by decide, rfl, by decide⟩

theorem witness_DecodeOfEncode : (Instr.setclkZ 31).wellFormed = true ∧ (Instr.seedX 0x7FFFF).wellFormed = true := by decide

theorem witness_EncodeOfDecode : decode 0x187FFFFF = .ok (.settapZ 0x7FFFFF) ∧ decode 0x2000001F = .ok (.setclkX 31) := by decide

theorem witness_IllegalWordsExactly : decode 0xA0000008 = .error .noRow ∧ decode 0x34400000 = .error .noRow := by decide

theorem witness_ClockShiftsSequence : (0 : Nat) < 1 ∧ (1 : Nat) ≤ 1 ∧ (1 : Nat) < 22 ∧ (1 : Nat) ≤ 21 ∧ (21 : Nat) < 22 := by decide

theorem witness_ClockWordForm : (0 : Nat) < 1 ∧ (0 : Nat) < 23 := by decide

theorem witness_ClockProperties : (0 : Nat) < 1 ∧ (0 : Nat) < 19 ∧ posBit (0x00027 : XWord) (19 - 1) = true := by decide

theorem witness_ClockingBitNotFedBack :
    cfgRef.ClkNotTap ∧ (∀ i, i ≠ cfgRef.clk.x.toNat → posBit (0 : XWord) i = posBit (0x400 : XWord) i) ∧
      posBit (0 : XWord) 8 ≠ posBit (0x400 : XWord) 8 := by
  refine ⟨by decide, ?_, by decide⟩
  intro i hi
  have h8 : i ≠ 8 := hi
  by_cases h : i < 19
  · have key : ∀ i < 19, i ≠ 8 → posBit (0 : XWord) i = posBit (0x400 : XWord) i := by decide
    exact key i h h8
  · simp [posBit, BitVec.getMsbD, h]

/-- Words of SETTAP's and SEED's opcodes that name no register or have one bit too many. -/
theorem witness_SettapSeedIllegal :
    (cmdOp 0x1C000000 = 1 ∧ cmdSel 0x1C000000 = 3) ∧ (cmdOp 0x10080000 = 1 ∧ cmdSel 0x10080000 = 0 ∧
      2 ^ 19 ≤ (cmdImm 0x10080000).toNat) ∧ (cmdOp 0x34400000 = 3 ∧ cmdSel 0x34400000 = 1 ∧
      2 ^ 22 ≤ (cmdImm 0x34400000).toNat) ∧ (cmdOp 0x38800000 = 3 ∧ cmdSel 0x38800000 = 2 ∧
      2 ^ 23 ≤ (cmdImm 0x38800000).toNat) := by decide

theorem witness_NopOnlyAnswers : cmdOp 0x00000001 = 0 ∧ (0x00000001 : CmdWord) ≠ 0 := by decide

theorem witness_AgreeingRegistersAdvance :
    (clockingBits cfgRef ⟨0, 0, 0⟩ = ⟨false, false, false⟩) ∧ (clockingBits cfgRef ⟨0, 0, 0x1000⟩ = ⟨false, false, true⟩) ∧
    (clockingBits cfgRef ⟨0x400, 0, 0x1000⟩ = ⟨true, false, true⟩) ∧
    (clockingBits cfgRef ⟨0x400, 0, 0⟩ = ⟨true, false, false⟩) := by decide

theorem witness_GeneratorStepWordForm :
    (cfgRef.clk.x.toNat ≤ 18 ∧ cfgRef.clk.y.toNat ≤ 21 ∧ cfgRef.clk.z.toNat ≤ 22) ∧
    ((18 : Index).toNat ≤ 18 ∧ (21 : Index).toNat ≤ 21 ∧ (22 : Index).toNat ≤ 22) := by decide

theorem witness_SetclkWritesOrFails : (18 : Nat) ≤ 18 ∧ (18 : Nat) < 19 ∧ (21 : Nat) ≤ 21 ∧ (21 : Nat) < 22 ∧ (22 : Nat) ≤ 22 ∧
    (22 : Nat) < 23 ∧ (31 : Nat) < 32 := by decide

theorem witness_InitConstructsGenerator :
    (ready.vtap = ⟨true, true, true⟩ ∧ ready.vclk = ⟨true, true, true⟩ ∧ ready.vseed = ⟨true, true, true⟩) ∧
    ¬ (scenario.vtap = ⟨true, true, true⟩ ∧ scenario.vclk = ⟨true, true, true⟩ ∧ scenario.vseed = ⟨true, true, true⟩) := by decide

theorem witness_StepDrawsKeystreamBit : ready.gv = true ∧ State.reset.gv = false := by decide

theorem witness_CryptCombinesBit : ready.gv = true ∧ State.reset.gv = false := by decide

theorem witness_GenYieldsKeystream :
    (let s := { ready with inbox := List.replicate 2 (HostInput.command 0x50000000) ++ [HostInput.reset] };
      s.inbox = List.replicate 2 (HostInput.command 0x50000000) ++ [.reset] ∧ s.busy = false ∧ s.gv = true) ∧
    (let s := { State.reset with inbox := List.replicate 2 (HostInput.command 0x50000000) ++ [] };
      s.inbox = List.replicate 2 (HostInput.command 0x50000000) ++ [] ∧ s.busy = false ∧ s.gv = false) := by decide

theorem witness_XcryptYieldsDecrypt :
    let s := { ready with inbox := [.command 0x60000001, .command 0x60000000] };
    s.inbox = [true, false].map (fun b => .command (if b then 0x60000001 else 0x60000000)) ++ [] ∧ s.busy = false ∧ s.gv = true := by
  decide

theorem witness_DecryptIsInvolution :
    [true, false].length ≤ [true, true, false].length ∧ [true, false][1]? = some false ∧ [true, true, false][1]? = some true ∧
      [false, true].length = [true, false].length := by decide

theorem witness_SearchFindsLeastCandidate : trial cfgRef 0 4 0 0x086921 0x486921 = true ∧
    searchAll cfgRef 0 0 0x086921 0x486921 = .found 4 := by decide +kernel

theorem witness_TrialIsPrefixMatch : (0 : Nat) < 24 ∧ (23 : Nat) < 24 := by decide

theorem witness_SearchCommandOutcome :
    (scenario.vtap = ⟨true, true, true⟩ ∧ scenario.vclk = ⟨true, true, true⟩ ∧ scenario.vseed.x = true ∧
      scenario.vseed.z = true ∧ scenario.vct = true ∧ scenario.vkp = true) ∧ State.reset.vkp = false := by decide

theorem witness_SearchKeepsInputs : exec .search scenario = .next (after (exec .search scenario)) := rfl

/-- With X and Z all zero, no taps and CLK[Y] at the last position, Y shows its first 1 for ever: no keystream is 1 and then 0,
so the target 0x800000 exhausts the search. -/
theorem exhausting_trial (y : YWord) : trial ⟨⟨0, 0, 0⟩, ⟨0, 21, 0⟩⟩ 0 y 0 0 0x800000 = false := by
  have x : posBit (0#19) 0 = false := by decide
  have z : posBit (0#23) 0 = false := by decide
  have mx : clockNext (0#19) 0#19 = 0#19 := by decide
  have mz : clockNext (0#23) 0#23 = 0#23 := by decide
  have px : posBit (0#19) 18 = false := by decide
  have pz : posBit (0#23) 22 = false := by decide
  have stay : ∀ v : YWord, posBit v 21 = true → genStep ⟨⟨0, 0, 0⟩, ⟨0, 21, 0⟩⟩ ⟨0, v, 0⟩ = (⟨0, v, 0⟩, true) := by
    intro v h
    simp [genStep, moveRegs, advances, majorityBit, clockingBits, h, x, z, mx, mz, maj, combine, px, pz]
  have move : ∀ v : YWord, posBit v 21 = false →
      genStep ⟨⟨0, 0, 0⟩, ⟨0, 21, 0⟩⟩ ⟨0, v, 0⟩ = (⟨0, clockNext v 0, 0⟩, posBit (clockNext v 0) 21) := by
    intro v h
    simp [genStep, moveRegs, advances, majorityBit, clockingBits, h, x, z, mx, mz, maj, combine, px, pz]
  have two : ∀ (b c : Bool) (ks : List Bool), (b = false ∨ c = true) →
      (decrypt (seqOfWord (0 : Payload)) (b :: c :: ks) == seqOfWord (0x800000 : Payload)) = false := by
    intro b c ks h
    have hz : seqOfWord (0 : Payload) = false :: false :: List.replicate 22 false := by decide
    have hk : seqOfWord (0x800000 : Payload) = true :: false :: List.replicate 22 false := by decide
    rw [hz, hk]
    rcases h with rfl | rfl
    · simp [decrypt]
    · simp [decrypt]
  show (decrypt _ (generate _ _ (22 + 1 + 1)).2 == _) = false
  cases hy : posBit y 21
  · simp only [generate, candidateGen]
    rw [move y hy]
    cases h1 : posBit (clockNext y 0) 21
    · exact two _ _ _ (.inl rfl)
    · simp only [stay _ h1]
      exact two _ _ _ (.inr rfl)
  · simp only [generate, candidateGen]
    rw [stay y hy]
    simp only [stay y hy]
    exact two _ _ _ (.inr rfl)

/-- A configured state whose search exhausts. -/
def exhausting : State :=
  { scenario with tap := ⟨0, 0, 0⟩, clk := ⟨0, 21, 0⟩, seed := ⟨0, 0, 0⟩, ct := 0, kp := 0x800000 }

theorem exhausting_search : searchAll ⟨⟨0, 0, 0⟩, ⟨0, 21, 0⟩⟩ 0 0 0 0x800000 = .exhausted := by
  rcases searchFrom_spec ⟨⟨0, 0, 0⟩, ⟨0, 21, 0⟩⟩ 0 0 0 0x800000 Config.nCand 0 with ⟨k, -, -, -, h, -⟩ | ⟨h, -⟩
  · rw [exhausting_trial] at h
    cases h
  · exact h

theorem witness_ControlLoopComputesSearch :
    (scenario.searchReady = true ∧
      searchAll ⟨scenario.tap, scenario.clk⟩ scenario.seed.x scenario.seed.z scenario.ct scenario.kp = .found 4) ∧
    (exhausting.searchReady = true ∧
      searchAll ⟨exhausting.tap, exhausting.clk⟩ exhausting.seed.x exhausting.seed.z exhausting.ct exhausting.kp = .exhausted) :=
  ⟨⟨by decide, by decide +kernel⟩, by decide, exhausting_search⟩

/-- Candidate 2 is the least with its keystream in V21; candidates 0 and 1 have another one. -/
theorem witness_SearchRecoversLeastTrueState :
    ∀ y : YWord, y.toNat < (2 : YWord).toNat → (generate cfgRef ⟨0, y, 0⟩ 24).2 ≠ (generate cfgRef ⟨0, 2, 0⟩ 24).2 := by
  intro y h
  have h2 : y.toNat < 2 := h
  have hy : y = 0 ∨ y = 1 := by
    rcases Nat.lt_succ_iff_lt_or_eq.mp h2 with h0 | h1
    · exact .inl (BitVec.eq_of_toNat_eq (by simpa using h0))
    · exact .inr (BitVec.eq_of_toNat_eq h1)
  rcases hy with rfl | rfl <;> decide +kernel

theorem witness_ReadBackThroughPort :
    (decode (0x10000000 ||| (0x7FFFF : Payload).setWidth 32) = .ok (.settapX 0x7FFFF)) ∧
    (decode (0x14000000 ||| (0x3FFFFF : Payload).setWidth 32) = .ok (.settapY 0x3FFFFF)) ∧
    (decode (0x18000000 ||| (0x7FFFFF : Payload).setWidth 32) = .ok (.settapZ 0x7FFFFF)) ∧
    (decode (0x20000000 ||| (18 : Payload).setWidth 32) = .ok (.setclkX 18)) ∧
    (decode (0x24000000 ||| (21 : Payload).setWidth 32) = .ok (.setclkY 21)) ∧
    (decode (0x28000000 ||| (22 : Payload).setWidth 32) = .ok (.setclkZ 22)) ∧
    (decode (0x30000000 ||| (0x7FFFF : Payload).setWidth 32) = .ok (.seedX 0x7FFFF)) ∧
    (decode (0x34000000 ||| (0x3FFFFF : Payload).setWidth 32) = .ok (.seedY 0x3FFFFF)) ∧
    (decode (0x38000000 ||| (0x7FFFFF : Payload).setWidth 32) = .ok (.seedZ 0x7FFFFF)) ∧
    (decode (0x70000000 ||| (0xFFFFFF : Payload).setWidth 32) = .ok (.setct 0xFFFFFF)) ∧
    (decode (0x80000000 ||| (0xFFFFFF : Payload).setWidth 32) = .ok (.setkp 0xFFFFFF)) ∧ ready.busy = false := by decide

theorem witness_ErrorFlagSticky :
    (runWord 0xB0000000 ready = .next (ready.raise .illegal) ∧ ready.err = false ∧ (ready.raise .illegal).err = true ∧
      (ready.raise .illegal).rspLog = ready.rspLog ++ [0x80000000] ∧ 8 ≤ (rspCode 0x80000000).toNat) ∧
    (runWord 0 (ready.raise .illegal) = .next ((ready.raise .illegal).ok 0) ∧ (ready.raise .illegal).err = true) ∧
    (runWord 0 ready = .next (ready.ok 0) ∧ (ready.ok 0).err = false ∧ ready.ecode = 0) :=
  ⟨⟨rfl, rfl, rfl, rfl, by decide⟩, ⟨rfl, rfl⟩, rfl, rfl, rfl⟩

theorem witness_ValidFlagsOnlyGrow : step ready = .next ready ∧ (∀ rest, ready.inbox ≠ .reset :: rest) ∧
    (∀ w rest, ready.inbox ≠ .cutOff w :: rest) ∧ ready.vtap.x = true := by
  refine ⟨rfl, ?_, ?_, rfl⟩
  · intro rest h
    cases h
  · intro w rest h
    cases h

theorem witness_GeneratorValidFlag :
    exec .init { ready with gv := false } = .next (after (exec .init { ready with gv := false })) ∧
      (after (exec .init { ready with gv := false })).gv = true ∧ ready.initReady = true ∧
      ((after (exec (.settapX 0) ready)).gv, (after (exec (.settapY 0) ready)).gv, (after (exec (.settapZ 0) ready)).gv)
        = (false, false, false) ∧
      ((after (exec (.setclkX 18) ready)).gv, (after (exec (.setclkY 21) ready)).gv, (after (exec (.setclkZ 22) ready)).gv)
        = (false, false, false) ∧
      ready.gv = true ∧ ready.searchReady = true :=
  ⟨rfl, by decide⟩

theorem witness_RegistersHaveTheirWriters :
    (after (exec (.settapX 1) ready)).tap.x ≠ ready.tap.x ∧ (after (exec (.settapY 1) ready)).tap.y ≠ ready.tap.y ∧
      (after (exec (.settapZ 1) ready)).tap.z ≠ ready.tap.z ∧ (after (exec (.setclkX 18) ready)).clk.x ≠ ready.clk.x ∧
      (after (exec (.setclkY 21) ready)).clk.y ≠ ready.clk.y ∧ (after (exec (.setclkZ 22) ready)).clk.z ≠ ready.clk.z ∧
      (after (exec (.seedX 1) ready)).seed.x ≠ ready.seed.x ∧ (after (exec (.seedY 1) ready)).seed.y ≠ ready.seed.y ∧
      (after (exec (.seedZ 1) ready)).seed.z ≠ ready.seed.z ∧ (after (exec (.setct 1) ready)).ct ≠ ready.ct ∧
      (after (exec (.setkp 1) ready)).kp ≠ ready.kp ∧ (after (exec .step ready)).lfsr ≠ ready.lfsr := by decide

/-- The last clause: a search that exhausts changes SRES. -/
theorem witness_RegistersHaveTheirWriters_search :
    exec .search exhausting = .next (exhausting.endSearch .exhausted) ∧
      (exhausting.endSearch .exhausted).sres ≠ exhausting.sres := by
  refine ⟨?_, by decide⟩
  show Host.Outcome.next (if exhausting.searchReady then
    exhausting.endSearch (searchAll ⟨⟨0, 0, 0⟩, ⟨0, 21, 0⟩⟩ 0 0 0 0x800000) else _) = _
  rw [exhausting_search]
  rfl

theorem witness_HiddenContentsNeverObservable :
    let s := { State.reset with lfsr := ⟨1, 2, 3⟩, tap := ⟨4, 5, 6⟩, ct := 7, res := 8 };
    State.reset.Inv ∧ s.Inv ∧ Agree State.reset s ∧ Host.Core.run core 3 State.reset = .next State.reset ∧ State.reset ≠ s := by
  refine ⟨by decide, by decide, ?_, rfl, by decide⟩
  constructor <;> decide

/-- A response of each kind: OK, an error, EXHAUSTED; FOUND is `test_search_v20`. -/
theorem witness_OneResponsePerCommand :
    (rspTo ready 0x00000000 = some 0 ∧ (rspCode 0).toNat ≤ 2) ∧
    (rspTo ready 0xF0000000 = some 0x80000000 ∧ 8 ≤ (rspCode 0x80000000).toNat) ∧
    (exec .search exhausting = .next (exhausting.endSearch .exhausted) ∧
      (exhausting.endSearch .exhausted).rspLog = exhausting.rspLog ++ [0x20000000] ∧ rspCode 0x20000000 = 2) ∧
    rspCode 0x10000004 = 1 :=
  ⟨by decide, by decide, ⟨witness_RegistersHaveTheirWriters_search.1, rfl, by decide⟩, by decide⟩

theorem witness_CommandsInOrder :
    let s := { ready with inbox := [.command 0x50000000, .command 0xF0000000, .reset] };
    s.busy = false ∧ s.inbox = ([0x50000000, 0xF0000000] : List CmdWord).map .command ++ [.reset] := by decide

theorem witness_WritesAreIdempotent :
    exec (.setct 5) ready = .next (after (exec (.setct 5) ready)) ∧
      exec (.setct 5) (after (exec (.setct 5) ready)) = .next (after (exec (.setct 5) (after (exec (.setct 5) ready)))) ∧
      exec .search ready = .next (after (exec .search ready)) ∧
      exec .search (after (exec .search ready)) = .next (after (exec .search (after (exec .search ready)))) :=
  ⟨rfl, rfl, rfl, rfl⟩

theorem witness_GeneratorStalls : posBit (0x000800 : YWord) cfgRef.clk.y.toNat = true ∧
    posBit (1 : YWord) cfgRef.clk.y.toNat = false := by decide

theorem witness_UninitCommandByCommand :
    State.reset.vtap = ⟨false, false, false⟩ ∧ State.reset.vclk = ⟨false, false, false⟩ ∧
      State.reset.vseed = ⟨false, false, false⟩ ∧ State.reset.vct = false ∧ State.reset.vkp = false ∧
      State.reset.gv = false ∧ State.reset.sres ≠ .found := by decide

theorem witness_ErrorChangesOnlyFlags :
    runWord 0x20000013 ready = .next (ready.raise .operand) ∧
      (ready.raise .operand).rspLog = ready.rspLog ++ [0x90000000] ∧ 8 ≤ (rspCode 0x90000000).toNat :=
  ⟨rfl, rfl, by decide⟩

theorem witness_TextRoundTrip :
    (∀ ch ∈ ['H', 'i', '!'], Char.ofNat (BitVec.ofNat 8 ch.toNat).toNat = ch) ∧
      [true, true, true, true, true, true, true].length < 8 ∧ ['H', 'i', '!'][2]? = some '!' ∧ 7 < 8 := by simp

theorem witness_LoadCfgInstallsConfiguration :
    (cfgAlt.clk.x.toNat ≤ 18 ∧ cfgAlt.clk.y.toNat ≤ 21 ∧ cfgAlt.clk.z.toNat ≤ 22) ∧
    (18 : Index).toNat ≤ 18 ∧ (21 : Index).toNat ≤ 21 ∧ (22 : Index).toNat ≤ 22 := by decide

theorem witness_RecoverReturnsSearchResult :
    scenario.vtap = ⟨true, true, true⟩ ∧ scenario.vclk = ⟨true, true, true⟩ ∧
      24 ≤ (seqOfWord (0x086921 : Payload)).length ∧ 24 ≤ (seqOfWord (0x486921 : Payload)).length := by decide

theorem witness_DecryptAllUsesFreshGenerator :
    scenario.vtap = ⟨true, true, true⟩ ∧ scenario.vclk = ⟨true, true, true⟩ := by decide

/-- The prefixes of V20 as the host sends them, and the prefixes of the exhausting search. -/
theorem witness_RecoverAndDecryptText :
    (scenario.vtap = ⟨true, true, true⟩ ∧ scenario.vclk = ⟨true, true, true⟩ ∧ 24 ≤ (seqOfWord (0x086921 : Payload)).length ∧
      3 ≤ ['H', 'i', '!'].length) ∧
    wordOfSeq 24 ((textToBits (fun ch : Char => BitVec.ofNat 8 ch.toNat) ['H', 'i', '!']).take 24) = 0x486921 ∧
    searchAll ⟨scenario.tap, scenario.clk⟩ 0 0 0x086921 0x486921 = .found 4 ∧
    wordOfSeq 24 ((textToBits (fun _ : Char => (0x80 : BitVec 8)) ['H']).take 24) = 0x000080 ∧
    searchAll ⟨exhausting.tap, exhausting.clk⟩ 0 0 0 0x800000 = .exhausted :=
  ⟨by decide, by decide, by decide +kernel, by decide, exhausting_search⟩

end Sys2Proof.Tests
end

section
/-! PROOFS. The bit order between sequences and words (R13): the digits of `natOfSeq`, the bits of `wordOfSeq`, and the two
round trips. -/

namespace Sys2Proof.Machine

/-- A position of a word counts from the most significant bit (R13). -/
theorem posBit_eq_getLsbD {n : Nat} (v : BitVec n) {i : Nat} (h : i < n) : posBit v i = v.getLsbD (n - 1 - i) := by
  simp [posBit, BitVec.getMsbD, h]

/-- A bit added at the end of a sequence is the new digit of weight 1. -/
theorem natOfSeq_concat (bits : List Bool) (b : Bool) : natOfSeq (bits ++ [b]) = 2 * natOfSeq bits + b.toNat := by
  simp [natOfSeq]

/-- The digit of weight `2^j` is the bit at position `j` from the end; above the sequence the digits are 0. -/
theorem natOfSeq_testBit (bits : List Bool) (j : Nat) : (natOfSeq bits).testBit j = bits.reverse[j]?.getD false := by
  induction bits using List.reverseRecOn generalizing j with
  | nil => simp [natOfSeq]
  | append_singleton bits b ih =>
    rw [natOfSeq_concat, List.reverse_concat]
    cases j with
    | zero => cases b <;> simp [Nat.testBit_zero]
    | succ j =>
      have hb : b.toNat < 2 := b.toNat_lt
      have hhalf : (2 * natOfSeq bits + b.toNat) / 2 = natOfSeq bits := by omega
      rw [Nat.testBit_succ, hhalf, ih, List.getElem?_cons_succ]

/-- The word of a sequence of its width carries the sequence's bit at every position (R13). -/
theorem getElem?_eq_posBit_wordOfSeq {n : Nat} {bits : List Bool} (hn : bits.length = n) {i : Nat} (h : i < n) :
    bits[i]? = some (posBit (wordOfSeq n bits) i) := by
  subst hn
  have hlt : bits.length - 1 - i < bits.length := by omega
  have hpos : bits.length - 1 - (bits.length - 1 - i) = i := by omega
  have hbit : posBit (wordOfSeq bits.length bits) i = bits[i]?.getD false := by
    rw [posBit_eq_getLsbD _ h, wordOfSeq, BitVec.getLsbD_ofNat, natOfSeq_testBit, List.getElem?_reverse hlt, hpos]
    simp [hlt]
  simp [hbit, h]

/-- `Seq_n(Word(S)) = S` for a sequence of length `n` (R13). -/
theorem seqOfWord_wordOfSeq {n : Nat} {bits : List Bool} (hn : bits.length = n) : seqOfWord (wordOfSeq n bits) = bits := by
  refine List.ext_getElem? fun i => ?_
  by_cases h : i < n
  · rw [seqOfWord_getElem? _ h, getElem?_eq_posBit_wordOfSeq hn h]
  · rw [List.getElem?_eq_none (by simp; omega), List.getElem?_eq_none (by omega)]

/-- `Word(Seq_n(v)) = v` (R13): both words have the same bit at every position. -/
@[simp] theorem wordOfSeq_seqOfWord {n : Nat} (v : BitVec n) : wordOfSeq n (seqOfWord v) = v := by
  refine BitVec.eq_of_getMsbD_eq fun i h => Option.some.inj ?_
  calc some (posBit (wordOfSeq n (seqOfWord v)) i)
      = (seqOfWord v)[i]? := (getElem?_eq_posBit_wordOfSeq (seqOfWord_length v) h).symm
    _ = some (posBit v i) := seqOfWord_getElem? v h

/-- Settles O12: the bits of a sequence and of its word position by position, and the two round trips built on them. -/
theorem sequenceWordRoundTrip : Obligations.SequenceWordRoundTrip := by
  refine ⟨fun n v => ⟨seqOfWord_length v, fun i h => ?_, wordOfSeq_seqOfWord v⟩,
    fun bits => ⟨seqOfWord_wordOfSeq rfl, fun i h => ?_⟩⟩
  · rw [seqOfWord_getElem? v h, posBit_eq_getLsbD v h]
  · rw [getElem?_eq_posBit_wordOfSeq rfl h, posBit_eq_getLsbD _ h]

end Sys2Proof.Machine
end

section
/-! PROOFS. What a command can do to the state, said once for all 32 commands: the inductive relation `Effect`, and the
lemma `exec_effect` that ties it to `exec`. -/

namespace Sys2Proof.Machine

/-- `SETTAP r` (R106). -/
def settapOf : (r : Reg) → BitVec r.width → Instr
  | .x, mask => .settapX mask
  | .y, mask => .settapY mask
  | .z, mask => .settapZ mask

/-- `SETCLK r` (R124). -/
def setclkOf : Reg → Nat → Instr
  | .x, idx => .setclkX idx
  | .y, idx => .setclkY idx
  | .z, idx => .setclkZ idx

/-- `SEED r` (R107). -/
def seedOf : (r : Reg) → BitVec r.width → Instr
  | .x, bits => .seedX bits
  | .y, bits => .seedY bits
  | .z, bits => .seedZ bits

/-- The states a command can leave, each with the command that does so and its guard: an error changes only ERR and ECODE,
an answer changes nothing, and every other command makes its one write (R37, R55, R224). Which value is answered, drawn or
found is left open. -/
inductive Effect (s : State) : Instr → State → Prop
  | raise (i : Instr) (e : CmdError) : Effect s i (s.raise e)
  | answer (i : Instr) (data : Payload) : Effect s i (s.ok data)
  | settap (r : Reg) (mask : BitVec r.width) : Effect s (settapOf r mask) ((s.writeTap r mask).ok 0)
  | setclk (r : Reg) (idx : Nat) (inRange : idx ≤ r.width - 1) :
      Effect s (setclkOf r idx) ((s.writeClk r (BitVec.ofNat 5 idx)).ok 0)
  | seed (r : Reg) (bits : BitVec r.width) : Effect s (seedOf r bits) ((s.writeSeed r bits).ok 0)
  | init (ready : s.initReady = true) : Effect s .init (s.construct.ok 0)
  | draw (i : Instr) (draws : i = .step ∨ ∃ b, i = .crypt b) (valid : s.gv = true) (g : Regs) (data : Payload) :
      Effect s i ((s.moveTo g).ok data)
  | setct (bits : Payload) : Effect s (.setct bits) ((s.writeCt bits).ok 0)
  | setkp (bits : Payload) : Effect s (.setkp bits) ((s.writeKp bits).ok 0)
  | search (ready : s.searchReady = true) (o : SearchOutcome) : Effect s .search (s.endSearch o)

theorem Effect.readOut (s : State) (i : Instr) (valid : Bool) (data : Payload) : Effect s i (s.readOut valid data) := by
  cases valid
  case false => exact .raise i .uninit
  case true => exact .answer i data

theorem Effect.setClkIndex (s : State) (r : Reg) (idx : Nat) : Effect s (setclkOf r idx) (setClkIndex r idx s) := by
  by_cases h : idx ≤ r.width - 1
  · have hwrite : Machine.setClkIndex r idx s = (s.writeClk r (BitVec.ofNat 5 idx)).ok 0 :=
      if_pos (decide_eq_true h)
    exact hwrite ▸ .setclk r idx h
  · have herror : Machine.setClkIndex r idx s = s.raise .operand := if_neg (mt of_decide_eq_true h)
    exact herror ▸ .raise _ .operand

theorem Effect.stepWith (s : State) (i : Instr) (draws : i = .step ∨ ∃ b, i = .crypt b) (b : Bool) :
    Effect s i (stepWith b s) := by
  unfold Machine.stepWith
  split
  · exact .draw i draws ‹_› _ _
  · exact .raise i .uninit

/-- What every command does is one of the effects (R37). -/
theorem exec_effect {i : Instr} {s t : State} (h : exec i s = .next t) : Effect s i t := by
  cases i
  all_goals cases h
  case nop => exact .answer _ 0
  case settapX mask => exact .settap .x mask
  case settapY mask => exact .settap .y mask
  case settapZ mask => exact .settap .z mask
  case setclkX idx => exact .setClkIndex s .x idx
  case setclkY idx => exact .setClkIndex s .y idx
  case setclkZ idx => exact .setClkIndex s .z idx
  case seedX bits => exact .seed .x bits
  case seedY bits => exact .seed .y bits
  case seedZ bits => exact .seed .z bits
  case init =>
    split
    · exact .init ‹_›
    · exact .raise _ .uninit
  case step => exact .stepWith s _ (.inl rfl) false
  case crypt b => exact .stepWith s _ (.inr ⟨b, rfl⟩) b
  case setct bits => exact .setct bits
  case setkp bits => exact .setkp bits
  case search =>
    split
    · exact .search ‹_› _
    · exact .raise _ .uninit
  all_goals exact .readOut s _ _ _

/-- A command word has the effect of some command: that of its own, or, being illegal, an error response, which is an effect
of every command (R80, R81). -/
theorem runWord_effect {w : CmdWord} {s t : State} (h : runWord w s = .next t) : ∃ i, Effect s i t := by
  unfold runWord at h
  split at h
  · exact ⟨_, exec_effect h⟩
  · cases h
    exact ⟨.nop, .raise _ .illegal⟩

end Sys2Proof.Machine
end

section
/-! PROOFS. The invariant of R35: it holds at reset, and each effect of a command and so every step keeps it. -/

namespace Sys2Proof.Machine

/-- Settles O4: the values R36 gives, read off `State.reset`. -/
theorem resetStateAsTabled : Obligations.ResetStateAsTabled :=
  ⟨rfl, rfl, rfl, rfl, rfl, rfl, rfl, rfl, rfl, rfl, rfl⟩

/-- The invariant at a reset during the run, whatever the inputs and responses (R36). -/
theorem State.resetCore_inv (s : State) : s.resetCore.Inv :=
  ⟨⟨nofun, nofun, nofun⟩, nofun, ⟨fun _ => rfl, nofun⟩, rfl⟩

/-- Settles O5: the reset state is what a reset leaves of itself. -/
theorem resetMeetsInvariant : Obligations.ResetMeetsInvariant := State.reset.resetCore_inv

/-- A command that ends in an error keeps R35 (e): ECODE keeps its code or takes the error's. -/
theorem State.ErrorCoded.raise {s : State} (h : s.ErrorCoded) (e : CmdError) : (s.raise e).ErrorCoded := by
  obtain ⟨_, hcode⟩ := h
  refine ⟨nofun, fun _ => ?_⟩
  rw [State.raise_ecode]
  split
  · exact hcode ‹_›
  · cases e <;> decide

/-- A position that SETCLK accepts is in range, so R35 (b) goes on to hold (R124). -/
theorem State.IndicesInRange.writeClk {s : State} (h : s.IndicesInRange) {r : Reg} {idx : Nat}
    (inRange : idx ≤ r.width - 1) : (s.writeClk r (BitVec.ofNat 5 idx)).IndicesInRange := by
  obtain ⟨hx, hy, hz⟩ := h
  have hidx : (BitVec.ofNat 5 idx).toNat ≤ r.width - 1 := (Nat.mod_le _ _).trans inRange
  cases r
  case x => exact ⟨fun _ => hidx, hy, hz⟩
  case y => exact ⟨hx, fun _ => hidx, hz⟩
  case z => exact ⟨hx, hy, fun _ => hidx⟩

/-- Marking a register keeps a complete trio complete. -/
theorem Marks.all_mark {m : Marks} (h : m.all = true) (r : Reg) : (m.mark r).all = true := by
  simp only [Marks.all, Bool.and_eq_true] at h
  cases r <;> simp [Marks.all, Marks.mark, h]

/-- Every effect of a command keeps the invariant (R35). -/
theorem Effect.inv {s t : State} {i : Instr} (h : Effect s i t) (inv : s.Inv) : t.Inv := by
  obtain ⟨hidx, hgen, herr, hbusy⟩ := inv
  cases h with
  | raise _ e => exact ⟨hidx, hgen, herr.raise e, hbusy⟩
  | answer => exact ⟨hidx, hgen, herr, hbusy⟩
  | settap => exact ⟨hidx, nofun, herr, hbusy⟩
  | setclk r idx inRange => exact ⟨hidx.writeClk inRange, nofun, herr, hbusy⟩
  | seed r bits =>
    refine ⟨hidx, fun hgv => ?_, herr, hbusy⟩
    obtain ⟨htap, hclk, hseed⟩ := hgen hgv
    exact ⟨htap, hclk, Marks.all_mark hseed r⟩
  | init ready =>
    simp only [State.initReady, Bool.and_eq_true] at ready
    obtain ⟨⟨htap, hclk⟩, hseed⟩ := ready
    exact ⟨hidx, fun _ => ⟨htap, hclk, hseed⟩, herr, hbusy⟩
  | draw => exact ⟨hidx, hgen, herr, hbusy⟩
  | setct => exact ⟨hidx, hgen, herr, hbusy⟩
  | setkp => exact ⟨hidx, hgen, herr, hbusy⟩
  | search ready o => cases o <;> exact ⟨hidx, nofun, herr, rfl⟩

/-- Every step keeps the invariant: a reset establishes it, a command's effect keeps it, and no search is in progress. -/
theorem State.Inv.step {s t : State} (inv : s.Inv) (h : Machine.step s = .next t) : t.Inv := by
  obtain ⟨-, -, -, hbusy⟩ := id inv
  obtain ⟨rest, -, rfl⟩ | ⟨hsearch, -, -⟩ | ⟨-, w, rest, -, hrun⟩ | ⟨-, w, rest, -, rfl⟩ | ⟨-, -, rfl⟩ := step_cases h
  · exact State.resetCore_inv _
  · exact absurd hsearch (by simp [hbusy])
  · obtain ⟨i, heffect⟩ := runWord_effect hrun
    exact heffect.inv inv
  · exact State.resetCore_inv _
  · exact inv

/-- Settles O6, by the cases of a step and the effects of a command. -/
theorem stepKeepsInvariant : Obligations.StepKeepsInvariant := fun _ _ inv h => inv.step h

end Sys2Proof.Machine
end

section
/-! PROOFS. What the spec leaves unspecified stays hidden (R36, U1 to U4): each operation of the commands keeps two states
in agreement, so every command, every step and every run does. -/

namespace Sys2Proof.Machine

/-- Writing one sequence of a trio keeps two trios equal where they are marked, the written one marked from then on. -/
theorem Regs.set_agree {m : Marks} {a b : Regs} (r : Reg) (v : BitVec r.width) (hx : m.x = true → a.x = b.x)
    (hy : m.y = true → a.y = b.y) (hz : m.z = true → a.z = b.z) :
    ((m.mark r).x = true → (a.set r v).x = (b.set r v).x) ∧ ((m.mark r).y = true → (a.set r v).y = (b.set r v).y) ∧
      ((m.mark r).z = true → (a.set r v).z = (b.set r v).z) := by
  cases r
  case x => exact ⟨fun _ => rfl, hy, hz⟩
  case y => exact ⟨hx, fun _ => rfl, hz⟩
  case z => exact ⟨hx, hy, fun _ => rfl⟩

/-- The same for the clocking-bit positions. -/
theorem Indices.set_agree {m : Marks} {a b : Indices} (r : Reg) (v : Index) (hx : m.x = true → a.x = b.x)
    (hy : m.y = true → a.y = b.y) (hz : m.z = true → a.z = b.z) :
    ((m.mark r).x = true → (a.set r v).x = (b.set r v).x) ∧ ((m.mark r).y = true → (a.set r v).y = (b.set r v).y) ∧
      ((m.mark r).z = true → (a.set r v).z = (b.set r v).z) := by
  cases r
  case x => exact ⟨fun _ => rfl, hy, hz⟩
  case y => exact ⟨hx, fun _ => rfl, hz⟩
  case z => exact ⟨hx, hy, fun _ => rfl⟩

theorem Regs.ext {a b : Regs} (hx : a.x = b.x) (hy : a.y = b.y) (hz : a.z = b.z) : a = b := by
  cases a; cases b; cases hx; cases hy; cases hz; rfl

theorem Indices.ext {a b : Indices} (hx : a.x = b.x) (hy : a.y = b.y) (hz : a.z = b.z) : a = b := by
  cases a; cases b; cases hx; cases hy; cases hz; rfl

theorem Marks.all_iff {m : Marks} : m.all = true ↔ m.x = true ∧ m.y = true ∧ m.z = true := by
  simp [Marks.all, and_assoc]

namespace Agree

theorem refl (s : State) : Agree s s := by constructor <;> intros <;> rfl

variable {s s' : State} (h : Agree s s')
include h

/-! What agreeing states have in common. -/

/-- With all three tap sets and positions written, the configurations in force are equal. -/
theorem cfg_eq (htap : s.vtap.all = true) (hclk : s.vclk.all = true) : s.cfg = s'.cfg := by
  obtain ⟨htx, hty, htz⟩ := Marks.all_iff.mp htap
  obtain ⟨hcx, hcy, hcz⟩ := Marks.all_iff.mp hclk
  have htap : s.tap = s'.tap := Regs.ext (h.tapX htx) (h.tapY hty) (h.tapZ htz)
  have hclk : s.clk = s'.clk := Indices.ext (h.clkX hcx) (h.clkY hcy) (h.clkZ hcz)
  simp only [State.cfg, htap, hclk]

theorem seed_eq (hseed : s.vseed.all = true) : s.seed = s'.seed := by
  obtain ⟨hx, hy, hz⟩ := Marks.all_iff.mp hseed
  exact Regs.ext (h.seedX hx) (h.seedY hy) (h.seedZ hz)

theorem status_eq : s.status = s'.status := by
  simp only [State.status, h.gv, h.vtap, h.vclk, h.vseed, h.vct, h.vkp, h.sres, h.err, h.ecode]

theorem initReady_eq : s.initReady = s'.initReady := by simp only [State.initReady, h.vtap, h.vclk, h.vseed]

theorem searchReady_eq : s.searchReady = s'.searchReady := by
  simp only [State.searchReady, h.vtap, h.vclk, h.vseed, h.vct, h.vkp]

/-- A SEARCH that passes its preconditions has the same outcome: it reads written registers only (R166). -/
theorem searchAll_eq (ready : s.searchReady = true) :
    searchAll s.cfg s.seed.x s.seed.z s.ct s.kp = searchAll s'.cfg s'.seed.x s'.seed.z s'.ct s'.kp := by
  simp only [State.searchReady, Bool.and_eq_true] at ready
  obtain ⟨⟨⟨⟨⟨htap, hclk⟩, hx⟩, hz⟩, hct⟩, hkp⟩ := ready
  rw [h.cfg_eq htap hclk, h.seedX hx, h.seedZ hz, h.ct hct, h.kp hkp]

/-! The operations keep agreement. -/

theorem respond (code : BitVec 4) (data : Payload) : Agree (s.respond code data) (s'.respond code data) :=
  { h with rspLog := by simp only [State.respond_rspLog, h.rspLog] }

theorem ok (data : Payload) : Agree (s.ok data) (s'.ok data) := h.respond codeOk data

theorem raise (e : CmdError) : Agree (s.raise e) (s'.raise e) :=
  { h with
    err := rfl
    ecode := by simp only [State.raise_ecode, h.err, h.ecode]
    rspLog := by simp only [State.raise_rspLog, h.rspLog] }

theorem writeTap (r : Reg) (mask : BitVec r.width) : Agree (s.writeTap r mask) (s'.writeTap r mask) :=
  have htap := Regs.set_agree r mask h.tapX h.tapY h.tapZ
  { h with
    gv := rfl
    vtap := congrArg (Marks.mark · r) h.vtap
    lfsr := nofun
    tapX := htap.1
    tapY := htap.2.1
    tapZ := htap.2.2 }

theorem writeClk (r : Reg) (idx : Index) : Agree (s.writeClk r idx) (s'.writeClk r idx) :=
  have hclk := Indices.set_agree r idx h.clkX h.clkY h.clkZ
  { h with
    gv := rfl
    vclk := congrArg (Marks.mark · r) h.vclk
    lfsr := nofun
    clkX := hclk.1
    clkY := hclk.2.1
    clkZ := hclk.2.2 }

theorem writeSeed (r : Reg) (bits : BitVec r.width) : Agree (s.writeSeed r bits) (s'.writeSeed r bits) :=
  have hseed := Regs.set_agree r bits h.seedX h.seedY h.seedZ
  { h with
    vseed := congrArg (Marks.mark · r) h.vseed
    seedX := hseed.1
    seedY := hseed.2.1
    seedZ := hseed.2.2 }

theorem writeCt (bits : Payload) : Agree (s.writeCt bits) (s'.writeCt bits) :=
  { h with vct := rfl, ct := fun _ => rfl }

theorem writeKp (bits : Payload) : Agree (s.writeKp bits) (s'.writeKp bits) :=
  { h with vkp := rfl, kp := fun _ => rfl }

theorem construct (hseed : s.vseed.all = true) : Agree s.construct s'.construct :=
  { h with gv := rfl, lfsr := fun _ => h.seed_eq hseed }

theorem moveTo (g : Regs) : Agree (s.moveTo g) (s'.moveTo g) := { h with lfsr := fun _ => rfl }

/-- The free values of a SEARCH lie under GV = 0, so they need not be equal (U3). -/
theorem endSearch (o : SearchOutcome) : Agree (s.endSearch o) (s'.endSearch o) := by
  cases o
  case found y =>
    exact { h with
      gv := rfl, busy := rfl, sres := rfl, lfsr := nofun, res := fun _ => rfl
      rspLog := by simp only [State.endSearch_found_rspLog, h.rspLog] }
  case exhausted =>
    exact { h with
      gv := rfl, busy := rfl, sres := rfl, lfsr := nofun, res := nofun
      rspLog := by simp only [State.endSearch_exhausted_rspLog, h.rspLog] }

theorem withInbox (rest : List HostInput) : Agree (s.withInbox rest) (s'.withInbox rest) := { h with inbox := rfl }

theorem resetCore : Agree s.resetCore s'.resetCore :=
  { refl s.resetCore with inbox := h.inbox, rspLog := h.rspLog }

/-! The shared meanings keep agreement. -/

/-- A read shows a register only under the flag that says it holds a value (R211). -/
theorem readOut {v v' : Bool} {d d' : Payload} (hv : v = v') (hd : v = true → d = d') :
    Agree (s.readOut v d) (s'.readOut v' d') := by
  subst hv
  cases v
  case false => exact h.raise .uninit
  case true => exact hd rfl ▸ h.ok d

theorem setClkIndex (r : Reg) (idx : Nat) : Agree (setClkIndex r idx s) (setClkIndex r idx s') := by
  unfold Machine.setClkIndex
  split
  · exact (h.writeClk r _).ok 0
  · exact h.raise .operand

/-- A generator step reads the working registers and the configuration, and with GV = 1 all of them hold values. -/
theorem stepWith (backed : s.GeneratorBacked) (b : Bool) : Agree (stepWith b s) (stepWith b s') := by
  unfold Machine.stepWith
  rw [← h.gv]
  split
  · obtain ⟨htap, hclk, -⟩ := backed ‹_›
    rw [← h.cfg_eq htap hclk, ← h.lfsr ‹_›]
    exact (h.moveTo _).ok _
  · exact h.raise .uninit

/-- INIT copies the seeds only when all are written (R134). -/
theorem execInit : ∃ t t', Machine.execInit s = .next t ∧ Machine.execInit s' = .next t' ∧ Agree t t' := by
  refine ⟨_, _, rfl, rfl, ?_⟩
  rw [← h.initReady_eq]
  split
  · rename_i ready
    simp only [State.initReady, Bool.and_eq_true] at ready
    obtain ⟨-, hseed⟩ := ready
    exact (h.construct hseed).ok 0
  · exact h.raise .uninit

/-- SEARCH runs only when all it reads is written, so both states find the same (R166). -/
theorem execSearch : ∃ t t', Machine.execSearch s = .next t ∧ Machine.execSearch s' = .next t' ∧ Agree t t' := by
  refine ⟨_, _, rfl, rfl, ?_⟩
  rw [← h.searchReady_eq]
  split
  · rw [← h.searchAll_eq ‹_›]
    exact h.endSearch _
  · exact h.raise .uninit

/-- The same command in two agreeing states ends in agreeing states. -/
theorem exec (backed : s.GeneratorBacked) (i : Instr) :
    ∃ t t', Machine.exec i s = .next t ∧ Machine.exec i s' = .next t' ∧ Agree t t' := by
  cases i
  case init => exact h.execInit
  case search => exact h.execSearch
  all_goals refine ⟨_, _, rfl, rfl, ?_⟩
  case nop => exact h.ok 0
  case settapX mask => exact (h.writeTap .x mask).ok 0
  case settapY mask => exact (h.writeTap .y mask).ok 0
  case settapZ mask => exact (h.writeTap .z mask).ok 0
  case setclkX idx => exact h.setClkIndex .x idx
  case setclkY idx => exact h.setClkIndex .y idx
  case setclkZ idx => exact h.setClkIndex .z idx
  case seedX bits => exact (h.writeSeed .x bits).ok 0
  case seedY bits => exact (h.writeSeed .y bits).ok 0
  case seedZ bits => exact (h.writeSeed .z bits).ok 0
  case step => exact h.stepWith backed false
  case crypt b => exact h.stepWith backed b
  case setct bits => exact (h.writeCt bits).ok 0
  case setkp bits => exact (h.writeKp bits).ok 0
  case rdStatus => exact h.readOut rfl fun _ => h.status_eq
  case rdRes =>
    exact h.readOut (congrArg (· == .found) h.sres) fun found => congrArg toData (h.res (beq_iff_eq.mp found))
  case rdTapX => exact h.readOut (congrArg Marks.x h.vtap) fun valid => congrArg toData (h.tapX valid)
  case rdTapY => exact h.readOut (congrArg Marks.y h.vtap) fun valid => congrArg toData (h.tapY valid)
  case rdTapZ => exact h.readOut (congrArg Marks.z h.vtap) fun valid => congrArg toData (h.tapZ valid)
  case rdClkX => exact h.readOut (congrArg Marks.x h.vclk) fun valid => congrArg toData (h.clkX valid)
  case rdClkY => exact h.readOut (congrArg Marks.y h.vclk) fun valid => congrArg toData (h.clkY valid)
  case rdClkZ => exact h.readOut (congrArg Marks.z h.vclk) fun valid => congrArg toData (h.clkZ valid)
  case rdSeedX => exact h.readOut (congrArg Marks.x h.vseed) fun valid => congrArg toData (h.seedX valid)
  case rdSeedY => exact h.readOut (congrArg Marks.y h.vseed) fun valid => congrArg toData (h.seedY valid)
  case rdSeedZ => exact h.readOut (congrArg Marks.z h.vseed) fun valid => congrArg toData (h.seedZ valid)
  case rdLfsrX => exact h.readOut h.gv fun valid => congrArg (toData ·.x) (h.lfsr valid)
  case rdLfsrY => exact h.readOut h.gv fun valid => congrArg (toData ·.y) (h.lfsr valid)
  case rdLfsrZ => exact h.readOut h.gv fun valid => congrArg (toData ·.z) (h.lfsr valid)
  case rdCt => exact h.readOut h.vct h.ct
  case rdKp => exact h.readOut h.vkp h.kp

theorem runWord (backed : s.GeneratorBacked) (w : CmdWord) :
    ∃ t t', Machine.runWord w s = .next t ∧ Machine.runWord w s' = .next t' ∧ Agree t t' := by
  unfold Machine.runWord
  cases decode w with
  | ok i => exact h.exec backed i
  | error _ => exact ⟨_, _, rfl, rfl, h.raise .illegal⟩

/-- Two agreeing states between commands step to agreeing states: they have the same input to take (R57). -/
theorem step (backed : s.GeneratorBacked) (hbusy : s.busy = false) :
    ∃ t t', Machine.step s = .next t ∧ Machine.step s' = .next t' ∧ Agree t t' := by
  have hbusy' : s'.busy = false := h.busy ▸ hbusy
  unfold Machine.step advance
  rw [← h.inbox]
  simp only [hbusy, hbusy', Bool.false_eq_true, if_false]
  split
  case h_1 rest _ => exact ⟨_, _, rfl, rfl, (h.withInbox rest).resetCore⟩
  case h_2 w rest _ => exact (h.withInbox rest).runWord backed w
  case h_3 w rest _ => exact ⟨_, _, rfl, rfl, (h.withInbox rest).resetCore⟩
  case h_4 => exact ⟨_, _, rfl, rfl, h⟩

end Agree

/-- Settles O46, by induction on the number of steps: one step keeps agreement, and the invariant supplies its premises. -/
theorem hiddenContentsNeverObservable : Obligations.HiddenContentsNeverObservable := by
  intro k
  induction k with
  | zero =>
    rintro s s' t - - h hrun
    cases hrun
    exact ⟨s', rfl, h⟩
  | succ k ih =>
    intro s s' t inv inv' h hrun
    obtain ⟨-, backed, -, hbusy⟩ := id inv
    obtain ⟨u, u', hstep, hstep', hu⟩ := h.step backed hbusy
    rw [core_run_succ hstep] at hrun
    rw [core_run_succ hstep']
    exact ih u u' t (inv.step hstep) (inv'.step hstep') hu hrun

end Sys2Proof.Machine
end

section
/-! PROOFS. Under ClkNotTap no feedback bit depends on a clocking bit (R26). -/

namespace Sys2Proof.Machine

/-- The feedback depends on the state's bits at the tap positions only (R101). -/
theorem feedback_congr {w : Nat} {a b t : BitVec w} (h : ∀ i, posBit t i = true → posBit a i = posBit b i) :
    feedback a t = feedback b t := by
  refine congrArg parity (BitVec.eq_of_getMsbD_eq fun i _ => ?_)
  rw [BitVec.getMsbD_and, BitVec.getMsbD_and]
  cases htap : t.getMsbD i
  case false => rw [Bool.and_false, Bool.and_false]
  case true => rw [show a.getMsbD i = b.getMsbD i from h i htap]

/-- A position that is no tap cannot be the one where the feedback's inputs differ. -/
theorem feedback_eq_of_not_tap {w p : Nat} {a b t : BitVec w} (notTap : posBit t p = false)
    (same : ∀ i, i ≠ p → posBit a i = posBit b i) : feedback a t = feedback b t :=
  feedback_congr fun i htap => same i fun hip => by simp [hip, notTap] at htap

/-- Settles O16, register by register. -/
theorem clockingBitNotFedBack : Obligations.ClockingBitNotFedBack :=
  fun _ _ _ ⟨notTapX, notTapY, notTapZ⟩ sameX sameY sameZ =>
    ⟨feedback_eq_of_not_tap notTapX sameX, feedback_eq_of_not_tap notTapY sameY, feedback_eq_of_not_tap notTapZ sameZ⟩

end Sys2Proof.Machine
end

section
/-! PROOFS. The flags: ERR and ECODE (R31), the valid flags (R35 f), GV (R23, R255, R256), and the STATUS word (R33). -/

namespace Sys2Proof.Machine

/-- A command word is answered by an error response or by one of OK, FOUND and EXHAUSTED that leaves ERR and ECODE alone
(R57, R73, R224). -/
theorem runWord_cases {w : CmdWord} {s t : State} (h : runWord w s = .next t) :
    (∃ e, t = s.raise e) ∨
      ∃ code data, code.toNat < 8 ∧ t.rspLog = s.rspLog ++ [rspWord code data] ∧ t.err = s.err ∧ t.ecode = s.ecode := by
  unfold runWord at h
  split at h
  · obtain herror | ⟨data, hlog, herr, hecode, -, -⟩ | ⟨o, -, -, rfl⟩ := exec_cases h
    · exact .inl herror
    · exact .inr ⟨codeOk, data, by decide, hlog, herr, hecode⟩
    · cases o
      case found y => exact .inr ⟨codeFound, toData y, by decide, rfl, rfl, rfl⟩
      case exhausted => exact .inr ⟨codeExhausted, 0, by decide, rfl, rfl, rfl⟩
  · cases h
    exact .inl ⟨.illegal, rfl⟩

/-- Settles O42: an error response sets ERR and, if it is the first, ECODE; every other response leaves both alone. -/
theorem errorFlagSticky : Obligations.ErrorFlagSticky := by
  refine ⟨rfl, rfl, fun w s t h => ?_⟩
  obtain ⟨e, rfl⟩ | ⟨code, data, hcode, hlog, herr, hecode⟩ := runWord_cases h
  · refine ⟨fun hs => ⟨rfl, ?_⟩, nofun, fun hs _ => ⟨rspWord e.code 0, rfl, ?_⟩, fun _ _ _ => rfl, nofun⟩
    · rw [State.raise_ecode, if_pos hs]
    · rw [State.raise_ecode, rspCode_rspWord, if_neg (by simp [hs])]
  · rw [herr, hecode]
    refine ⟨fun hs => ⟨hs, rfl⟩, fun _ _ => rfl, fun hs ht => ?_, fun rsp hrsp herror => ?_, fun hzero hs => hzero hs⟩
    · exact absurd ht (by simp [hs])
    · have heq : rspWord code data = rsp := by simpa using hlog.symm.trans hrsp
      rw [← heq, rspCode_rspWord] at herror
      omega

/-- Each flag of a trio that is 1 in the one is 1 in the other. -/
def Marks.Sub (m n : Marks) : Prop := (m.x → n.x) ∧ (m.y → n.y) ∧ (m.z → n.z)

theorem Marks.Sub.refl (m : Marks) : m.Sub m := ⟨id, id, id⟩

theorem Marks.sub_mark (m : Marks) (r : Reg) : m.Sub (m.mark r) := by
  cases r
  case x => exact ⟨fun _ => rfl, id, id⟩
  case y => exact ⟨id, fun _ => rfl, id⟩
  case z => exact ⟨id, id, fun _ => rfl⟩

/-- Each valid flag but GV that is 1 in the one state is 1 in the other (R35 f). -/
structure State.FlagsKept (s t : State) : Prop where
  vtap : s.vtap.Sub t.vtap
  vclk : s.vclk.Sub t.vclk
  vseed : s.vseed.Sub t.vseed
  vct : s.vct → t.vct
  vkp : s.vkp → t.vkp

theorem State.FlagsKept.refl (s : State) : s.FlagsKept s := ⟨.refl _, .refl _, .refl _, id, id⟩

/-- A SEARCH that ends has written no valid flag but GV (R166). -/
theorem State.flagsKept_endSearch (s : State) (o : SearchOutcome) : s.FlagsKept (s.endSearch o) := by
  cases o <;> exact { State.FlagsKept.refl s with }

/-- A command sets valid flags other than GV and clears none (R29). -/
theorem Effect.flagsKept {s t : State} {i : Instr} (h : Effect s i t) : s.FlagsKept t := by
  have kept := State.FlagsKept.refl s
  cases h with
  | raise => exact { kept with }
  | answer => exact { kept with }
  | settap r => exact { kept with vtap := s.vtap.sub_mark r }
  | setclk r => exact { kept with vclk := s.vclk.sub_mark r }
  | seed r => exact { kept with vseed := s.vseed.sub_mark r }
  | init => exact { kept with }
  | draw => exact { kept with }
  | setct => exact { kept with vct := fun _ => rfl }
  | setkp => exact { kept with vkp := fun _ => rfl }
  | search ready o => exact s.flagsKept_endSearch o

/-- A trial of the control loop writes no valid flag but GV (R168, R169). -/
theorem searchTick_flagsKept (s : State) : s.FlagsKept (searchTick s) := by
  obtain ⟨g, i, hturns⟩ := trialTurns_frame Config.prefixLen s.loadCandidate true
  unfold searchTick
  rw [hturns]
  split
  · exact s.flagsKept_endSearch _
  · split
    · exact { State.flagsKept_endSearch { s.loadCandidate with lfsr := g, idx := i } _ with }
    · exact { State.FlagsKept.refl s with }

/-- Settles O43, by the cases of a step: only a reset clears a valid flag, and it is excluded. -/
theorem validFlagsOnlyGrow : Obligations.ValidFlagsOnlyGrow := by
  intro s t h noReset noCutOff
  have kept : s.FlagsKept t := by
    obtain ⟨rest, hin, -⟩ | ⟨-, -, rfl⟩ | ⟨-, w, rest, -, hrun⟩ | ⟨-, w, rest, hin, -⟩ | ⟨-, -, rfl⟩ := step_cases h
    · exact absurd hin (noReset rest)
    · exact searchTick_flagsKept s
    · obtain ⟨i, heffect⟩ := runWord_effect hrun
      exact { heffect.flagsKept with }
    · exact absurd hin (noCutOff w rest)
    · exact .refl _
  obtain ⟨⟨tx, ty, tz⟩, ⟨cx, cy, cz⟩, ⟨sx, sy, sz⟩, hct, hkp⟩ := kept
  exact ⟨tx, ty, tz, cx, cy, cz, sx, sy, sz, hct, hkp⟩

/-- The commands that clear GV (R23, R255): SETTAP, a SETCLK in range, and a SEARCH that passes its preconditions. -/
abbrev ClearsGenerator (i : Instr) (s : State) : Prop :=
  (∃ m, i = .settapX m) ∨ (∃ m, i = .settapY m) ∨ (∃ m, i = .settapZ m) ∨
    (∃ k ≤ 18, i = .setclkX k) ∨ (∃ k ≤ 21, i = .setclkY k) ∨ (∃ k ≤ 22, i = .setclkZ k) ∨
    (i = .search ∧ s.searchReady = true)

theorem clearsGenerator_settapOf (s : State) (r : Reg) (mask : BitVec r.width) : ClearsGenerator (settapOf r mask) s := by
  cases r
  case x => exact .inl ⟨mask, rfl⟩
  case y => exact .inr (.inl ⟨mask, rfl⟩)
  case z => exact .inr (.inr (.inl ⟨mask, rfl⟩))

theorem clearsGenerator_setclkOf (s : State) {r : Reg} {idx : Nat} (inRange : idx ≤ r.width - 1) :
    ClearsGenerator (setclkOf r idx) s := by
  cases r
  case x => exact .inr (.inr (.inr (.inl ⟨idx, inRange, rfl⟩)))
  case y => exact .inr (.inr (.inr (.inr (.inl ⟨idx, inRange, rfl⟩))))
  case z => exact .inr (.inr (.inr (.inr (.inr (.inl ⟨idx, inRange, rfl⟩)))))

@[simp] theorem State.endSearch_gv (s : State) (o : SearchOutcome) : (s.endSearch o).gv = false := by cases o <;> rfl

/-- An accepted SETCLK clears GV (R124). -/
theorem setClkIndex_gv {r : Reg} {idx : Nat} (s : State) (inRange : idx ≤ r.width - 1) :
    (setClkIndex r idx s).gv = false := by
  rw [setClkIndex_eq, if_pos inRange]
  rfl

/-- What an effect does to GV: INIT sets it, a clearing command clears it, every other command keeps it (R23). -/
theorem Effect.gv_cases {s t : State} {i : Instr} (h : Effect s i t) :
    (i = .init ∧ t.gv = true) ∨ (ClearsGenerator i s ∧ t.gv = false) ∨ t.gv = s.gv := by
  cases h with
  | init => exact .inl ⟨rfl, rfl⟩
  | settap r mask => exact .inr (.inl ⟨clearsGenerator_settapOf s r mask, rfl⟩)
  | setclk r idx inRange => exact .inr (.inl ⟨clearsGenerator_setclkOf s inRange, rfl⟩)
  | search ready o =>
    exact .inr (.inl ⟨.inr (.inr (.inr (.inr (.inr (.inr ⟨rfl, ready⟩))))), s.endSearch_gv o⟩)
  | raise => exact .inr (.inr rfl)
  | answer => exact .inr (.inr rfl)
  | seed => exact .inr (.inr rfl)
  | draw => exact .inr (.inr rfl)
  | setct => exact .inr (.inr rfl)
  | setkp => exact .inr (.inr rfl)

/-- An INIT with its nine inputs written sets GV (R134). -/
theorem gv_of_exec_init {s t : State} (h : exec .init s = .next t) (ready : s.initReady = true) : t.gv = true := by
  cases h
  rw [if_pos ready]
  rfl

/-- A clearing command clears GV: it is not refused. -/
theorem gv_of_clearsGenerator {s t : State} {i : Instr} (h : exec i s = .next t) (hi : ClearsGenerator i s) :
    t.gv = false := by
  obtain ⟨m, rfl⟩ | ⟨m, rfl⟩ | ⟨m, rfl⟩ | ⟨k, hk, rfl⟩ | ⟨k, hk, rfl⟩ | ⟨k, hk, rfl⟩ | ⟨rfl, ready⟩ := hi <;> cases h
  · rfl
  · rfl
  · rfl
  · exact setClkIndex_gv (r := .x) s hk
  · exact setClkIndex_gv (r := .y) s hk
  · exact setClkIndex_gv (r := .z) s hk
  · rw [if_pos ready, State.endSearch_gv]

/-- Settles O44: who changes GV is read off the effects, and the two unconditional clauses off INIT and the clearing
commands themselves. -/
theorem generatorValidFlag : Obligations.GeneratorValidFlag := by
  intro i s t h
  refine ⟨fun hs ht => ?_, fun hi ready => gv_of_exec_init (hi ▸ h) ready, fun hs ht => ?_, gv_of_clearsGenerator h⟩
  · obtain ⟨hi, -⟩ | ⟨-, hclear⟩ | hkeep := (exec_effect h).gv_cases
    · exact hi
    · exact absurd ht (by simp [hclear])
    · exact absurd ht (by simp [hkeep, hs])
  · obtain ⟨-, hset⟩ | ⟨hi, -⟩ | hkeep := (exec_effect h).gv_cases
    · exact absurd ht (by simp [hset])
    · exact hi
    · exact absurd ht (by simp [hkeep, hs])

/-- The twelve valid flags and ERR stand at their bits of STATUS (R33). -/
theorem State.status_flags (s : State) :
    s.status.getLsbD 0 = s.vtap.x ∧ s.status.getLsbD 1 = s.vtap.y ∧ s.status.getLsbD 2 = s.vtap.z ∧
    s.status.getLsbD 3 = s.vclk.x ∧ s.status.getLsbD 4 = s.vclk.y ∧ s.status.getLsbD 5 = s.vclk.z ∧
    s.status.getLsbD 6 = s.vseed.x ∧ s.status.getLsbD 7 = s.vseed.y ∧ s.status.getLsbD 8 = s.vseed.z ∧
    s.status.getLsbD 9 = s.vct ∧ s.status.getLsbD 10 = s.vkp ∧ s.status.getLsbD 11 = s.gv ∧
    s.status.getLsbD 14 = s.err := by
  unfold State.status
  refine ⟨?_, ?_, ?_, ?_, ?_, ?_, ?_, ?_, ?_, ?_, ?_, ?_, ?_⟩
  all_goals
    repeat rw [BitVec.getLsbD_append]
    simp

/-- SRES stands in bits 13 and 12, above twelve flags (R33). -/
theorem State.status_sres (s : State) : s.status.extractLsb' 12 2 = s.sres.code := by
  unfold State.status
  iterate 12 rw [BitVec.extractLsb'_append_eq_of_le (by decide)]
  exact BitVec.extractLsb'_append_eq_right

/-- ECODE stands in bits 18 to 15, above twelve flags, SRES and ERR (R33). -/
theorem State.status_ecode (s : State) : s.status.extractLsb' 15 4 = s.ecode := by
  unfold State.status
  iterate 14 rw [BitVec.extractLsb'_append_eq_of_le (by decide)]
  exact BitVec.extractLsb'_append_eq_right

/-- Above ECODE STATUS is zero (R33). -/
theorem State.status_top (s : State) : s.status.extractLsb' 19 5 = 0 := by
  unfold State.status
  iterate 15 rw [BitVec.extractLsb'_append_eq_of_le (by decide)]
  exact BitVec.extractLsb'_eq_self

/-- Settles O41, from the fields of the word; RD.STATUS answers in every state, its valid condition being no condition. -/
theorem statusLayout : Obligations.StatusLayout := by
  refine ⟨rfl, fun s => ?_⟩
  obtain ⟨tx, ty, tz, cx, cy, cz, sx, sy, sz, ct, kp, gv, err⟩ := s.status_flags
  exact ⟨tx, ty, tz, cx, cy, cz, sx, sy, sz, ct, kp, gv, s.status_sres, err, s.status_ecode, s.status_top,
    congrArg Host.Outcome.next (s.ok_eq_answered s.status)⟩

end Sys2Proof.Machine
end

section
/-! PROOFS. Each register has its writers (R37): read off the effects of the commands. -/

namespace Sys2Proof.Machine

/-- Settles O45: each effect names its command and leaves every other register as it was. -/
theorem registersHaveTheirWriters : Obligations.RegistersHaveTheirWriters := by
  intro i s t h
  cases exec_effect h with
  | raise => simp
  | answer => simp
  | settap r mask => cases r <;> simp [settapOf, Regs.set, Marks.mark]
  | setclk r idx => cases r <;> simp [setclkOf, Indices.set, Marks.mark]
  | seed r bits => cases r <;> simp [seedOf, Regs.set, Marks.mark]
  | init => simp
  | draw _ draws => obtain rfl | ⟨b, rfl⟩ := draws <;> simp
  | setct => simp
  | setkp => simp
  | search ready o => cases o <;> simp

end Sys2Proof.Machine
end

section
/-! PROOFS. Commands at the port (R57, R80, R81): a step that takes a command word executes it, every word is answered once
and takes none of the inputs behind it, and so a list of words is executed in the order presented. -/

namespace Sys2Proof.Machine

/-- An idle core with a command word at the head of its inputs takes it and executes it (R57). -/
theorem step_of_command {s : State} {w : CmdWord} {rest : List HostInput} (hin : s.inbox = .command w :: rest)
    (idle : s.busy = false) : step s = runWord w (s.withInbox rest) := by
  simp [step, advance, hin, idle]

/-- A word that decodes is executed as its command (R81). -/
theorem runWord_of_decode {w : CmdWord} {i : Instr} (hw : decode w = .ok i) (s : State) : runWord w s = exec i s := by
  simp [runWord, hw]

/-- A word that matches no row answers ERR_ILLEGAL (R80). -/
theorem runWord_of_illegal {w : CmdWord} {e : Illegal} (hw : decode w = .error e) (s : State) :
    runWord w s = .next (s.raise .illegal) := by
  simp [runWord, hw]

/-- Settles O1, by the two outcomes of decoding. -/
theorem stepRunsDecodedCommand : Obligations.StepRunsDecodedCommand := by
  intro s w rest hin idle
  rw [step_of_command hin idle]
  refine ⟨fun i hw => runWord_of_decode hw _, fun hw => ?_⟩
  rw [runWord_of_illegal hw, State.raise_eq_afterError]
  rfl

/-- What a command that ends does at the port: one response, no further input taken, and an idle core stays idle (R57). -/
structure State.AnsweredOnce (s t : State) : Prop where
  inbox : t.inbox = s.inbox
  rspLog : ∃ rsp, t.rspLog = s.rspLog ++ [rsp]
  idle : s.busy = false → t.busy = false

theorem Effect.answeredOnce {s t : State} {i : Instr} (h : Effect s i t) : s.AnsweredOnce t := by
  cases h with
  | search ready o => cases o <;> exact ⟨rfl, ⟨_, rfl⟩, fun _ => rfl⟩
  | raise => exact ⟨rfl, ⟨_, rfl⟩, id⟩
  | answer => exact ⟨rfl, ⟨_, rfl⟩, id⟩
  | settap => exact ⟨rfl, ⟨_, rfl⟩, id⟩
  | setclk => exact ⟨rfl, ⟨_, rfl⟩, id⟩
  | seed => exact ⟨rfl, ⟨_, rfl⟩, id⟩
  | init => exact ⟨rfl, ⟨_, rfl⟩, id⟩
  | draw => exact ⟨rfl, ⟨_, rfl⟩, id⟩
  | setct => exact ⟨rfl, ⟨_, rfl⟩, id⟩
  | setkp => exact ⟨rfl, ⟨_, rfl⟩, id⟩

/-- Every command ends in a next state (R231). -/
theorem exec_ends (i : Instr) (s : State) : ∃ t, exec i s = .next t := by
  cases i <;> exact ⟨_, rfl⟩

/-- Every command word ends in a next state, an illegal one included (R80, R231). -/
theorem runWord_ends (w : CmdWord) (s : State) : ∃ t, runWord w s = .next t := by
  cases hw : decode w with
  | ok i => exact runWord_of_decode hw s ▸ exec_ends i s
  | error e => exact ⟨_, runWord_of_illegal hw s⟩

/-- Settles O49, by induction on the words: the first is executed and answered once, and leaves an idle core with the others
at the head of its inputs. -/
theorem commandsInOrder : Obligations.CommandsInOrder := by
  intro ws
  induction ws with
  | nil => exact fun s rest _ hin => ⟨s, [], rfl, hin, (List.append_nil _).symm, rfl, nofun⟩
  | cons w ws ih =>
    intro s rest idle hin
    obtain ⟨u, hrun⟩ := runWord_ends w (s.withInbox (ws.map .command ++ rest))
    have hstep : step s = .next u := (step_of_command hin idle).trans hrun
    obtain ⟨i, heffect⟩ := runWord_effect hrun
    obtain ⟨hinbox, ⟨rsp, hlog⟩, hidle⟩ := heffect.answeredOnce
    obtain ⟨t, rsps, htail, hrest, hlogs, hlength, -⟩ := ih u rest (hidle idle) hinbox
    refine ⟨t, rsp :: rsps, (core_run_succ hstep _).trans htail, hrest, ?_, congrArg (· + 1) hlength, ?_⟩
    · rw [hlogs, hlog, List.append_assoc, List.singleton_append, State.withInbox_rspLog]
    · rintro _ _ ⟨⟩
      exact ⟨u, hrun, htail⟩

end Sys2Proof.Machine
end

section
/-! PROOFS. SEARCH keeps its inputs (R56), and every command but STEP and CRYPT may be issued twice (R55): the second time it
makes no change but to answer again. -/

namespace Sys2Proof.Machine

/-- What SEARCH looks for in a state (R166). -/
def State.searchResult (s : State) : SearchOutcome := searchAll s.cfg s.seed.x s.seed.z s.ct s.kp

theorem exec_search_of_ready {s : State} (ready : s.searchReady = true) :
    exec .search s = .next (s.endSearch s.searchResult) :=
  congrArg Host.Outcome.next (if_pos ready)

theorem exec_search_of_not_ready {s : State} (notReady : s.searchReady = false) :
    exec .search s = .next (s.raise .uninit) :=
  congrArg Host.Outcome.next (if_neg (by simp [notReady]))

/-- Settles O34: an accepted search ends in `endSearch`, which writes none of its inputs, and a refused one in an error. -/
theorem searchKeepsInputs : Obligations.SearchKeepsInputs := by
  intro s t h
  cases ready : s.searchReady with
  | true =>
    cases (exec_search_of_ready ready).symm.trans h
    cases s.searchResult <;> exact ⟨rfl, rfl, rfl, rfl, rfl, rfl, rfl⟩
  | false =>
    cases (exec_search_of_not_ready ready).symm.trans h
    exact ⟨rfl, rfl, rfl, rfl, rfl, rfl, rfl⟩

/-- A search may be repeated: it leaves what it needs and what it looks for as they were (R55, R56). -/
theorem exec_search_endSearch {s : State} (ready : s.searchReady = true) (o : SearchOutcome) :
    exec .search (s.endSearch o) = .next ((s.endSearch o).endSearch s.searchResult) := by
  cases o <;> exact exec_search_of_ready ready

theorem exec_setclkOf (r : Reg) (idx : Nat) (s : State) : exec (setclkOf r idx) s = .next (setClkIndex r idx s) := by
  cases r <;> rfl

/-- A command that, issued again where it ended, only answers the same once more (R55). -/
def AnswersAgain (i : Instr) (s : State) : Prop :=
  ∃ (t : State) (rsp : RspWord), exec i s = .next t ∧ t.rspLog = s.rspLog ++ [rsp] ∧ exec i t = .next (t.answered rsp)

namespace AnswersAgain

variable {i : Instr} {s : State}

/-- A command that answers OK after a write `u`, which the second write finds made. -/
theorem ok {u : State} {data : Payload} (first : exec i s = .next (u.ok data)) (log : u.rspLog = s.rspLog)
    (again : exec i (u.ok data) = .next ((u.ok data).ok data)) : AnswersAgain i s :=
  ⟨u.ok data, rspWord codeOk data, first, by rw [State.ok_rspLog, log], again⟩

/-- A command that ends in an error: the second error finds ERR set and keeps ECODE (R31). -/
theorem raise {e : CmdError} (first : exec i s = .next (s.raise e))
    (again : exec i (s.raise e) = .next ((s.raise e).raise e)) : AnswersAgain i s :=
  ⟨s.raise e, rspWord e.code 0, first, rfl, again⟩

/-- A read: its own response changes neither its valid condition nor what it reads (R211). -/
theorem read (valid : State → Bool) (data : State → Payload)
    (meaning : ∀ s, exec i s = .next (s.readOut (valid s) (data s)))
    (validOk : valid (s.ok (data s)) = valid s) (dataOk : data (s.ok (data s)) = data s)
    (validRaise : valid (s.raise .uninit) = valid s) : AnswersAgain i s := by
  cases hvalid : valid s with
  | true =>
    refine ok (u := s) (data := data s) ?_ rfl ?_
    · rw [meaning, hvalid]; rfl
    · rw [meaning, validOk, dataOk, hvalid]; rfl
  | false =>
    refine raise (e := .uninit) ?_ ?_
    · rw [meaning, hvalid]; rfl
    · rw [meaning, validRaise, hvalid]; rfl

theorem settap (r : Reg) (mask : BitVec r.width) : AnswersAgain (settapOf r mask) s := by
  cases r <;> exact ok rfl rfl rfl

theorem seed (r : Reg) (bits : BitVec r.width) : AnswersAgain (seedOf r bits) s := by
  cases r <;> exact ok rfl rfl rfl

/-- SETCLK, in range or not: the range check reads no state (R124). -/
theorem setclk (r : Reg) (idx : Nat) : AnswersAgain (setclkOf r idx) s := by
  by_cases h : indexInRange r idx = true
  · have write : ∀ s, exec (setclkOf r idx) s = .next ((s.writeClk r (BitVec.ofNat 5 idx)).ok 0) := fun s =>
      (exec_setclkOf r idx s).trans (congrArg Host.Outcome.next (if_pos h))
    refine ok (write s) rfl ((write _).trans ?_)
    cases r <;> rfl
  · have error : ∀ s, exec (setclkOf r idx) s = .next (s.raise .operand) := fun s =>
      (exec_setclkOf r idx s).trans (congrArg Host.Outcome.next (if_neg h))
    exact raise (error s) (error _)

/-- INIT copies seeds it does not change, or ends in an error that writes none (R134). -/
theorem init : AnswersAgain .init s := by
  by_cases ready : s.initReady = true
  · exact ok (u := s.construct) (congrArg Host.Outcome.next (if_pos ready)) rfl
      (congrArg Host.Outcome.next (if_pos ready))
  · exact raise (e := .uninit) (congrArg Host.Outcome.next (if_neg ready)) (congrArg Host.Outcome.next (if_neg ready))

/-- Every command but STEP, CRYPT and an accepted SEARCH. -/
theorem of_not_draw_not_accepted (notStep : i ≠ .step) (notCrypt : ∀ b, i ≠ .crypt b)
    (notSearch : i = .search → s.searchReady = false) : AnswersAgain i s := by
  cases i
  case step => exact absurd rfl notStep
  case crypt b => exact absurd rfl (notCrypt b)
  case search => exact raise (exec_search_of_not_ready (notSearch rfl)) (exec_search_of_not_ready (notSearch rfl))
  case nop => exact ok (u := s) rfl rfl rfl
  case settapX mask => exact settap .x mask
  case settapY mask => exact settap .y mask
  case settapZ mask => exact settap .z mask
  case setclkX idx => exact setclk .x idx
  case setclkY idx => exact setclk .y idx
  case setclkZ idx => exact setclk .z idx
  case seedX bits => exact seed .x bits
  case seedY bits => exact seed .y bits
  case seedZ bits => exact seed .z bits
  case init => exact init
  case setct bits => exact ok (u := s.writeCt bits) rfl rfl rfl
  case setkp bits => exact ok (u := s.writeKp bits) rfl rfl rfl
  case rdStatus => exact read (fun _ => true) (·.status) (fun _ => rfl) rfl rfl rfl
  case rdRes => exact read (·.resReady) (toData ·.res) (fun _ => rfl) rfl rfl rfl
  case rdTapX => exact read (·.vtap.x) (toData ·.tap.x) (fun _ => rfl) rfl rfl rfl
  case rdTapY => exact read (·.vtap.y) (toData ·.tap.y) (fun _ => rfl) rfl rfl rfl
  case rdTapZ => exact read (·.vtap.z) (toData ·.tap.z) (fun _ => rfl) rfl rfl rfl
  case rdClkX => exact read (·.vclk.x) (toData ·.clk.x) (fun _ => rfl) rfl rfl rfl
  case rdClkY => exact read (·.vclk.y) (toData ·.clk.y) (fun _ => rfl) rfl rfl rfl
  case rdClkZ => exact read (·.vclk.z) (toData ·.clk.z) (fun _ => rfl) rfl rfl rfl
  case rdSeedX => exact read (·.vseed.x) (toData ·.seed.x) (fun _ => rfl) rfl rfl rfl
  case rdSeedY => exact read (·.vseed.y) (toData ·.seed.y) (fun _ => rfl) rfl rfl rfl
  case rdSeedZ => exact read (·.vseed.z) (toData ·.seed.z) (fun _ => rfl) rfl rfl rfl
  case rdLfsrX => exact read (·.gv) (toData ·.lfsr.x) (fun _ => rfl) rfl rfl rfl
  case rdLfsrY => exact read (·.gv) (toData ·.lfsr.y) (fun _ => rfl) rfl rfl rfl
  case rdLfsrZ => exact read (·.gv) (toData ·.lfsr.z) (fun _ => rfl) rfl rfl rfl
  case rdCt => exact read (·.vct) (·.ct) (fun _ => rfl) rfl rfl rfl
  case rdKp => exact read (·.vkp) (·.kp) (fun _ => rfl) rfl rfl rfl

end AnswersAgain

/-- Settles O50: an accepted SEARCH finds the same again, and every other command but STEP and CRYPT only answers again. -/
theorem writesAreIdempotent : Obligations.WritesAreIdempotent := by
  intro i s t u first second notStep notCrypt
  by_cases accepted : i = .search ∧ s.searchReady = true
  · obtain ⟨rfl, ready⟩ := accepted
    cases (exec_search_of_ready ready).symm.trans first
    cases (exec_search_endSearch ready _).symm.trans second
    cases s.searchResult <;> exact ⟨rfl, fun notSearch => absurd rfl notSearch, _, rfl, rfl⟩
  · obtain ⟨t', rsp, first', log, again⟩ :=
      AnswersAgain.of_not_draw_not_accepted (s := s) notStep notCrypt fun hi => by simpa [hi] using accepted
    cases first'.symm.trans first
    cases again.symm.trans second
    exact ⟨rfl, fun _ => ⟨rfl, rfl, rfl⟩, rsp, log, rfl⟩

end Sys2Proof.Machine
end

section
/-! PROOFS. The opcode map (R77): its rows exclude each other, so a word decodes to the command of the one row that accepts it
(R80). -/

namespace Sys2Proof

theorem Row.accepts_iff {r : Row} {w : CmdWord} : r.accepts w = true ↔ w &&& r.mask = r.bits := beq_iff_eq

/-- Both rows fix some bit, and to different values (R77). -/
abbrev Row.Apart (r r' : Row) : Prop := r.bits &&& r'.mask ≠ r'.bits &&& r.mask

/-- No word matches two rows that stand apart: under both masks it would have both values. -/
theorem Row.Apart.not_accepts {r r' : Row} (apart : r.Apart r') {w : CmdWord} (acc : r.accepts w = true) :
    ¬ r'.accepts w = true := by
  intro acc'
  rw [Row.accepts_iff] at acc acc'
  refine apart ?_
  rw [← acc, ← acc', BitVec.and_assoc, BitVec.and_assoc, BitVec.and_comm r.mask]

theorem rows_apart : rows.Pairwise Row.Apart := by decide

/-- At most one of several rows that stand apart accepts a word. -/
theorem length_filter_accepts_le_one {rs : List Row} (apart : rs.Pairwise Row.Apart) (w : CmdWord) :
    (rs.filter fun r => r.accepts w).length ≤ 1 := by
  induction rs with
  | nil => exact Nat.zero_le _
  | cons r rs ih =>
    obtain ⟨hr, hrs⟩ := List.pairwise_cons.mp apart
    by_cases acc : r.accepts w = true
    · have others : rs.filter (fun r => r.accepts w) = [] :=
        List.filter_eq_nil_iff.mpr fun r' mem => (hr r' mem).not_accepts acc
      simp [acc, others]
    · simpa [acc] using ih hrs

/-- Settles O10: the rows stand apart, two by two. -/
theorem rowsPairwiseDisjoint : Obligations.RowsPairwiseDisjoint :=
  ⟨rfl, length_filter_accepts_le_one rows_apart⟩

/-- The row that accepts a word is unique (R80). -/
theorem row_unique {r r' : Row} (mem : r ∈ rows) (mem' : r' ∈ rows) {w : CmdWord} (acc : r.accepts w = true)
    (acc' : r'.accepts w = true) : r = r' := by
  have : Std.Symm Row.Apart := ⟨fun _ _ apart => apart.symm⟩
  by_contra hne
  exact (rows_apart.forall mem mem' hne).not_accepts acc acc'

theorem accepts_of_find? {rs : List Row} {r : Row} {w : CmdWord} (h : rs.find? (fun r => r.accepts w) = some r) :
    r.accepts w = true :=
  List.find?_some (p := fun r : Row => r.accepts w) h

/-- A word decodes to the command of any row that accepts it. -/
theorem decode_of_accepts {r : Row} (mem : r ∈ rows) {w : CmdWord} (acc : r.accepts w = true) :
    decode w = .ok (r.build w) := by
  have hfind : rows.find? (fun r => r.accepts w) = some r := by
    cases h : rows.find? (fun r => r.accepts w) with
    | none => exact absurd acc (List.find?_eq_none.mp h r mem)
    | some r' => rw [row_unique (List.mem_of_find?_eq_some h) mem (accepts_of_find? h) acc]
  simp [decode, hfind]

/-- A word that decodes is accepted by a row, whose command it is. -/
theorem exists_row_of_decode {w : CmdWord} {i : Instr} (h : decode w = .ok i) :
    ∃ r ∈ rows, r.accepts w = true ∧ r.build w = i := by
  unfold decode at h
  split at h
  case h_1 r hfind => exact ⟨r, List.mem_of_find?_eq_some hfind, accepts_of_find? hfind, Except.ok.inj h⟩
  case h_2 => cases h

/-- Settles O7, by decoding each word. -/
theorem tabledWordsDecode : Obligations.TabledWordsDecode := by
  unfold Obligations.TabledWordsDecode
  decide

end Sys2Proof
end

section
/-! PROOFS. The fields of an assembled command word (R70), and its operand in the low bits of the payload (R74). -/

namespace Sys2Proof

@[simp] theorem cmdOp_cmdWord (op : BitVec 4) (r : BitVec 2) (imm : Payload) : cmdOp (cmdWord op r imm) = op := by
  unfold cmdOp cmdWord
  iterate 2 rw [BitVec.extractLsb'_append_eq_of_le (by decide)]
  exact BitVec.extractLsb'_append_eq_left

@[simp] theorem cmdSel_cmdWord (op : BitVec 4) (r : BitVec 2) (imm : Payload) : cmdSel (cmdWord op r imm) = r := by
  unfold cmdSel cmdWord
  iterate 2 rw [BitVec.extractLsb'_append_eq_of_le (by decide)]
  exact BitVec.extractLsb'_append_eq_right

@[simp] theorem cmdRsv_cmdWord (op : BitVec 4) (r : BitVec 2) (imm : Payload) : cmdRsv (cmdWord op r imm) = 0 := by
  unfold cmdRsv cmdWord
  rw [BitVec.extractLsb'_append_eq_of_le (by decide)]
  exact BitVec.extractLsb'_append_eq_right

@[simp] theorem cmdImm_cmdWord (op : BitVec 4) (r : BitVec 2) (imm : Payload) : cmdImm (cmdWord op r imm) = imm :=
  BitVec.extractLsb'_append_eq_right

/-- A word whose reserved bits are zero is assembled from its fields (R70). -/
theorem cmdWord_fields {w : CmdWord} (rsv : cmdRsv w = 0) : cmdWord (cmdOp w) (cmdSel w) (cmdImm w) = w := by
  unfold cmdWord
  rw [← rsv]
  unfold cmdOp cmdSel cmdRsv cmdImm
  iterate 3 rw [BitVec.extractLsb'_append_extractLsb'_eq_extractLsb' (by decide)]
  exact BitVec.extractLsb'_eq_self

variable {n : Nat}

/-- The operand stands in the low bits of the word (R74). -/
theorem operand_cmdWord {op : BitVec 4} {r : BitVec 2} (m : BitVec n) (hn : n ≤ 24 := by decide) :
    (cmdWord op r (m.setWidth 24)).extractLsb' 0 n = m := by
  unfold cmdWord
  rw [BitVec.extractLsb'_append_eq_of_add_le (by omega), BitVec.extractLsb'_setWidth_of_le (by omega),
    BitVec.extractLsb'_eq_self]

/-- Two words are equal when their `n` low bits are and all their bits above those. -/
theorem eq_of_low_of_masked {v w : CmdWord} (low : v.extractLsb' 0 n = w.extractLsb' 0 n)
    (high : v &&& (BitVec.allOnes 32 <<< n) = w &&& (BitVec.allOnes 32 <<< n)) : v = w := by
  refine BitVec.eq_of_getLsbD_eq fun i hi => ?_
  by_cases hin : i < n
  · simpa [hin] using congrArg (BitVec.getLsbD · i) low
  · have hlt : i - n < 32 := by omega
    have hbit := congrArg (BitVec.getLsbD · i) high
    simp only [BitVec.getLsbD_and, BitVec.getLsbD_shiftLeft, BitVec.getLsbD_allOnes] at hbit
    simpa [hi, hin, hlt] using hbit

/-- A word that has an opcode and selector above `n` bits of operand is assembled from them. -/
theorem cmdWord_operand (hn : n ≤ 24) {op : BitVec 4} {r : BitVec 2} {w : CmdWord}
    (h : w &&& (BitVec.allOnes 32 <<< n) = op ++ r ++ (0 : BitVec 26)) :
    cmdWord op r ((w.extractLsb' 0 n).setWidth 24) = w :=
  eq_of_low_of_masked (operand_cmdWord _ hn) ((Laws.Encoding.cmdWord_masked op r hn _).trans h.symm)

end Sys2Proof
end

section
/-! PROOFS. Decoding and encoding undo each other (R70, R77, R80): the row of a command's mnemonic builds the command again
from its word, and every row builds, from each word it accepts, the command whose word that is. -/

namespace Sys2Proof

/-- A command whose word the row of its mnemonic accepts and reads back is what the word decodes to. -/
theorem decode_encode_of_row {i : Instr} {r : Row} (law : Laws.Encoding.Statement i) (wf : i.wellFormed = true)
    (hrow : rows.find? (fun r => r.mnemonic == i.mnemonic) = some r) (hbuild : r.build (encode i) = i) :
    decode (encode i) = .ok i := by
  have acc := law wf
  rw [hrow] at acc
  rw [decode_of_accepts (List.mem_of_find?_eq_some hrow) acc, hbuild]

/-- The index in the word of a SETCLK. -/
theorem index_cmdWord {op : BitVec 4} {r : BitVec 2} {idx : Nat} (h : idx < 32) :
    ((cmdWord op r (BitVec.ofNat 24 idx)).extractLsb' 0 5).toNat = idx := by
  rw [Laws.Encoding.index_payload h, operand_cmdWord, BitVec.toNat_ofNat, Nat.mod_eq_of_lt h]

/-- The data bit in the word of a CRYPT. -/
theorem bit_cmdWord {op : BitVec 4} {r : BitVec 2} (b : Bool) :
    (cmdWord op r ((BitVec.ofBool b).setWidth 24)).getLsbD 0 = b := by
  rw [cmdWord, BitVec.getLsbD_append]
  simp

/-- The 24 bits in the word of a SETCT or SETKP. -/
theorem prefix_cmdWord {op : BitVec 4} {r : BitVec 2} (p : Payload) : (cmdWord op r p).extractLsb' 0 24 = p :=
  cmdImm_cmdWord ..

open Laws.Encoding in
/-- Settles O8: a command without an operand has one word; an operand is found again in the low bits of the payload. -/
theorem decodeOfEncode : Obligations.DecodeOfEncode := by
  intro i wf
  cases i
  case settapX mask => exact decode_encode_of_row (settapX mask) wf rfl (congrArg _ (operand_cmdWord mask))
  case settapY mask => exact decode_encode_of_row (settapY mask) wf rfl (congrArg _ (operand_cmdWord mask))
  case settapZ mask => exact decode_encode_of_row (settapZ mask) wf rfl (congrArg _ (operand_cmdWord mask))
  case setclkX idx =>
    exact decode_encode_of_row (setclkX idx) wf rfl (congrArg _ (index_cmdWord (of_decide_eq_true wf)))
  case setclkY idx =>
    exact decode_encode_of_row (setclkY idx) wf rfl (congrArg _ (index_cmdWord (of_decide_eq_true wf)))
  case setclkZ idx =>
    exact decode_encode_of_row (setclkZ idx) wf rfl (congrArg _ (index_cmdWord (of_decide_eq_true wf)))
  case seedX bits => exact decode_encode_of_row (seedX bits) wf rfl (congrArg _ (operand_cmdWord bits))
  case seedY bits => exact decode_encode_of_row (seedY bits) wf rfl (congrArg _ (operand_cmdWord bits))
  case seedZ bits => exact decode_encode_of_row (seedZ bits) wf rfl (congrArg _ (operand_cmdWord bits))
  case crypt b => exact decode_encode_of_row (crypt b) wf rfl (congrArg _ (bit_cmdWord b))
  case setct bits => exact decode_encode_of_row (setct bits) wf rfl (congrArg _ (prefix_cmdWord bits))
  case setkp bits => exact decode_encode_of_row (setkp bits) wf rfl (congrArg _ (prefix_cmdWord bits))
  all_goals rfl

/-- The row builds, from each word it accepts, a well-formed command whose word that is (R82). -/
def Row.ReadsBack (r : Row) : Prop :=
  ∀ w, r.accepts w = true → (r.build w).wellFormed = true ∧ encode (r.build w) = w

/-- A row without an operand accepts its match only. -/
theorem Row.readsBack_of_full_mask {r : Row}
    (h : r.mask = 0xFFFFFFFF ∧ (r.build r.bits).wellFormed = true ∧ encode (r.build r.bits) = r.bits) : r.ReadsBack := by
  obtain ⟨full, wf, word⟩ := h
  intro w acc
  have hw : w = r.bits := by
    rw [← Row.accepts_iff.mp acc, full]
    exact BitVec.and_allOnes.symm
  exact hw ▸ ⟨wf, word⟩

/-- A row with an opcode, a selector and `n` bits of operand. -/
theorem Row.readsBack_of_operand {r : Row} (n : Nat) (op : BitVec 4) (sel : BitVec 2)
    (hbuild : ∀ w, encode (r.build w) = cmdWord op sel ((w.extractLsb' 0 n).setWidth 24))
    (wf : ∀ w, (r.build w).wellFormed = true := by exact fun _ => rfl) (hn : n ≤ 24 := by decide)
    (hmask : r.mask = BitVec.allOnes 32 <<< n := by decide)
    (hbits : r.bits = op ++ sel ++ (0 : BitVec 26) := by decide) : r.ReadsBack := by
  intro w acc
  rw [Row.accepts_iff, hmask, hbits] at acc
  exact ⟨wf w, (hbuild w).trans (cmdWord_operand hn acc)⟩

/-- An index read from a word has 5 bits. -/
theorem index_wellFormed (w : CmdWord) : decide ((w.extractLsb' 0 5).toNat < 32) = true :=
  decide_eq_true (w.extractLsb' 0 5).isLt

theorem index_payload_operand (w : CmdWord) :
    BitVec.ofNat 24 (w.extractLsb' 0 5).toNat = (w.extractLsb' 0 5).setWidth 24 := BitVec.ofNat_toNat ..

/-- The payload of a CRYPT word is its lowest bit. -/
theorem ofBool_getLsbD_zero (w : CmdWord) : BitVec.ofBool (w.getLsbD 0) = w.extractLsb' 0 1 := by
  rw [BitVec.getLsbD_eq_extractLsb']
  generalize w.extractLsb' 0 1 = b
  decide +revert

theorem encode_crypt_bit (w : CmdWord) : encode (.crypt (w.getLsbD 0)) = cmdWord 6 0 ((w.extractLsb' 0 1).setWidth 24) := by
  rw [← ofBool_getLsbD_zero, encode]

theorem prefix_setWidth (w : CmdWord) : w.extractLsb' 0 24 = (w.extractLsb' 0 24).setWidth 24 := (BitVec.setWidth_eq _).symm

theorem writeRows_readBack : ∀ r ∈ writeRows, r.ReadsBack := by
  simp only [writeRows, List.forall_mem_cons]
  refine ⟨?nop, ?settapX, ?settapY, ?settapZ, ?setclkX, ?setclkY, ?setclkZ, ?seedX, ?seedY, ?seedZ, nofun⟩
  case nop => exact Row.readsBack_of_full_mask (by decide)
  case settapX => exact Row.readsBack_of_operand 19 1 0 fun _ => rfl
  case settapY => exact Row.readsBack_of_operand 22 1 1 fun _ => rfl
  case settapZ => exact Row.readsBack_of_operand 23 1 2 fun _ => rfl
  case setclkX =>
    exact Row.readsBack_of_operand 5 2 0 (fun w => congrArg (cmdWord 2 0) (index_payload_operand w)) index_wellFormed
  case setclkY =>
    exact Row.readsBack_of_operand 5 2 1 (fun w => congrArg (cmdWord 2 1) (index_payload_operand w)) index_wellFormed
  case setclkZ =>
    exact Row.readsBack_of_operand 5 2 2 (fun w => congrArg (cmdWord 2 2) (index_payload_operand w)) index_wellFormed
  case seedX => exact Row.readsBack_of_operand 19 3 0 fun _ => rfl
  case seedY => exact Row.readsBack_of_operand 22 3 1 fun _ => rfl
  case seedZ => exact Row.readsBack_of_operand 23 3 2 fun _ => rfl

theorem runRows_readBack : ∀ r ∈ runRows, r.ReadsBack := by
  simp only [runRows, List.forall_mem_cons]
  refine ⟨?init, ?step, ?crypt, ?setct, ?setkp, ?search, nofun⟩
  case crypt => exact Row.readsBack_of_operand 1 6 0 encode_crypt_bit
  case setct => exact Row.readsBack_of_operand 24 7 0 fun w => congrArg (cmdWord 7 0) (prefix_setWidth w)
  case setkp => exact Row.readsBack_of_operand 24 8 0 fun w => congrArg (cmdWord 8 0) (prefix_setWidth w)
  all_goals exact Row.readsBack_of_full_mask (by decide)

theorem readRows_readBack : ∀ r ∈ readRows, r.ReadsBack := by
  have full : ∀ r ∈ readRows, r.mask = 0xFFFFFFFF ∧ (r.build r.bits).wellFormed = true ∧
      encode (r.build r.bits) = r.bits := by decide
  exact fun r mem => Row.readsBack_of_full_mask (full r mem)

theorem rows_readBack : ∀ r ∈ rows, r.ReadsBack := by
  simp only [rows, List.forall_mem_append]
  exact ⟨⟨writeRows_readBack, runRows_readBack⟩, readRows_readBack⟩

/-- Settles O9: the word was accepted by a row, and the row reads it back. -/
theorem encodeOfDecode : Obligations.EncodeOfDecode := by
  intro w i h
  obtain ⟨r, mem, acc, rfl⟩ := exists_row_of_decode h
  exact rows_readBack r mem w acc

end Sys2Proof
end

section
/-! PROOFS. The illegal words (R82): the words that decode are the words of well-formed commands, and those are the words
whose fields meet every condition of R82. -/

namespace Sys2Proof

/-- The fields of a legal command word: none of R82's cases applies to them. -/
abbrev LegalFields (op : BitVec 4) (r rsv : BitVec 2) (imm : Payload) : Prop :=
  op.toNat < 11 ∧ r ≠ 3 ∧ rsv = 0 ∧
    (op ∈ [0, 4, 5, 6, 7, 8, 9] ∨ (op = 10 ∧ imm.toNat % 8 ∈ [0, 1, 6, 7]) → r = 0) ∧
    (op ∈ [0, 4, 5, 9] → imm = 0) ∧
    (op ∈ [1, 3] → (r = 0 → imm.toNat < 2 ^ 19) ∧ (r = 1 → imm.toNat < 2 ^ 22) ∧ (r = 2 → imm.toNat < 2 ^ 23)) ∧
    (op = 2 → imm.toNat < 32) ∧ (op = 6 → imm.toNat < 2) ∧ (op = 10 → imm.toNat < 8)

/-- The fields of the word are those of a legal one. -/
abbrev LegalWord (w : CmdWord) : Prop := LegalFields (cmdOp w) (cmdSel w) (cmdRsv w) (cmdImm w)

/-- An operand fills no more of the payload than its width. -/
theorem toNat_setWidth_payload_lt {n : Nat} (m : BitVec n) : (m.setWidth 24).toNat < 2 ^ n :=
  (BitVec.toNat_setWidth 24 m ▸ Nat.mod_le _ _).trans_lt m.isLt

theorem toNat_index_payload_lt {idx : Nat} (h : idx < 32) : (BitVec.ofNat 24 idx).toNat < 32 :=
  Laws.Encoding.index_payload h ▸ toNat_setWidth_payload_lt (BitVec.ofNat 5 idx)

theorem legalWord_cmdWord {op : BitVec 4} {r : BitVec 2} {imm : Payload} :
    LegalWord (cmdWord op r imm) ↔ LegalFields op r 0 imm := by
  rw [LegalWord, cmdOp_cmdWord, cmdSel_cmdWord, cmdRsv_cmdWord, cmdImm_cmdWord]

/-- The word of a well-formed command has legal fields: those of its format (R76). -/
theorem legalWord_encode {i : Instr} (wf : i.wellFormed = true) : LegalWord (encode i) := by
  cases i
  case settapX m | settapY m | settapZ m | seedX m | seedY m | seedZ m =>
    have width := toNat_setWidth_payload_lt m
    exact legalWord_cmdWord.mpr (by simpa [LegalFields] using width)
  case setclkX idx | setclkY idx | setclkZ idx =>
    have width := toNat_index_payload_lt (of_decide_eq_true wf)
    exact legalWord_cmdWord.mpr (by simpa [LegalFields] using width)
  case crypt b => cases b <;> decide
  case setct p | setkp p => exact legalWord_cmdWord.mpr (by simp [LegalFields])
  all_goals decide

/-- A payload that fits an operand of `n` bits carries it. -/
theorem setWidth_setWidth_of_lt {n : Nat} {imm : Payload} (h : imm.toNat < 2 ^ n) : (imm.setWidth n).setWidth 24 = imm := by
  apply BitVec.eq_of_toNat_eq
  rw [BitVec.toNat_setWidth, BitVec.toNat_setWidth, Nat.mod_eq_of_lt h, Nat.mod_eq_of_lt imm.isLt]

/-- The word of a well-formed command. -/
abbrev CommandWord (w : CmdWord) : Prop := ∃ i : Instr, i.wellFormed = true ∧ encode i = w

section formats

variable {op : BitVec 4} {r : BitVec 2} {imm : Payload}

theorem sel_cases (hr : r ≠ 3) : r = 0 ∨ r = 1 ∨ r = 2 := by decide +revert

/-- The six formats (R76). -/
theorem op_formats (hop : op.toNat < 11) :
    op ∈ [0, 4, 5, 9] ∨ op ∈ [1, 3] ∨ op = 2 ∨ op = 6 ∨ op ∈ [7, 8] ∨ op = 10 := by decide +revert

/-- Format N (R76). -/
theorem commandWord_noOperand (hop : op ∈ [0, 4, 5, 9]) : CommandWord (cmdWord op 0 0) := by
  obtain rfl | rfl | rfl | rfl : op = 0 ∨ op = 4 ∨ op = 5 ∨ op = 9 := by simpa using hop
  · exact ⟨.nop, rfl, rfl⟩
  · exact ⟨.init, rfl, rfl⟩
  · exact ⟨.step, rfl, rfl⟩
  · exact ⟨.search, rfl, rfl⟩

/-- Format R (R76): a register and a sequence of its width. -/
theorem commandWord_sequence (hop : op ∈ [1, 3]) (hr : r ≠ 3)
    (width : (r = 0 → imm.toNat < 2 ^ 19) ∧ (r = 1 → imm.toNat < 2 ^ 22) ∧ (r = 2 → imm.toNat < 2 ^ 23)) :
    CommandWord (cmdWord op r imm) := by
  obtain ⟨hx, hy, hz⟩ := width
  obtain rfl | rfl : op = 1 ∨ op = 3 := by simpa using hop
  · obtain rfl | rfl | rfl := sel_cases hr
    · exact ⟨.settapX (imm.setWidth 19), rfl, congrArg (cmdWord 1 0) (setWidth_setWidth_of_lt (hx rfl))⟩
    · exact ⟨.settapY (imm.setWidth 22), rfl, congrArg (cmdWord 1 1) (setWidth_setWidth_of_lt (hy rfl))⟩
    · exact ⟨.settapZ (imm.setWidth 23), rfl, congrArg (cmdWord 1 2) (setWidth_setWidth_of_lt (hz rfl))⟩
  · obtain rfl | rfl | rfl := sel_cases hr
    · exact ⟨.seedX (imm.setWidth 19), rfl, congrArg (cmdWord 3 0) (setWidth_setWidth_of_lt (hx rfl))⟩
    · exact ⟨.seedY (imm.setWidth 22), rfl, congrArg (cmdWord 3 1) (setWidth_setWidth_of_lt (hy rfl))⟩
    · exact ⟨.seedZ (imm.setWidth 23), rfl, congrArg (cmdWord 3 2) (setWidth_setWidth_of_lt (hz rfl))⟩

/-- Format C (R76): a register and an index. -/
theorem commandWord_index (hr : r ≠ 3) (hidx : imm.toNat < 32) : CommandWord (cmdWord 2 r imm) := by
  have wf : decide (imm.toNat < 32) = true := decide_eq_true hidx
  have himm : BitVec.ofNat 24 imm.toNat = imm := by simp
  obtain rfl | rfl | rfl := sel_cases hr
  · exact ⟨.setclkX imm.toNat, wf, congrArg (cmdWord 2 0) himm⟩
  · exact ⟨.setclkY imm.toNat, wf, congrArg (cmdWord 2 1) himm⟩
  · exact ⟨.setclkZ imm.toNat, wf, congrArg (cmdWord 2 2) himm⟩

/-- Format B (R76). -/
theorem commandWord_bit (hbit : imm.toNat < 2) : CommandWord (cmdWord 6 0 imm) := by
  obtain rfl | rfl : imm = 0 ∨ imm = 1 := by bv_omega
  · exact ⟨.crypt false, rfl, rfl⟩
  · exact ⟨.crypt true, rfl, rfl⟩

/-- Format P (R76). -/
theorem commandWord_prefix (hop : op ∈ [7, 8]) : CommandWord (cmdWord op 0 imm) := by
  obtain rfl | rfl : op = 7 ∨ op = 8 := by simpa using hop
  · exact ⟨.setct imm, rfl, rfl⟩
  · exact ⟨.setkp imm, rfl, rfl⟩

/-- Format S (R76, R79): each selector has its row for the registers it may be read from. -/
theorem commandWord_read (hr : r ≠ 3) (hsel : imm.toNat < 8) (hr0 : imm.toNat % 8 ∈ [0, 1, 6, 7] → r = 0) :
    CommandWord (cmdWord 10 r imm) := by
  have rowOf : ∀ sel < 8, ∀ r : BitVec 2, r ≠ 3 → (sel % 8 ∈ [0, 1, 6, 7] → r = 0) →
      ∃ row ∈ readRows, (row.build 0).wellFormed = true ∧ encode (row.build 0) = cmdWord 10 r (BitVec.ofNat 24 sel) := by
    decide
  obtain ⟨row, -, wf, word⟩ := rowOf imm.toNat hsel r hr hr0
  exact ⟨row.build 0, wf, by simpa using word⟩

/-- Legal fields make the word of a command: op names the format. -/
theorem commandWord_of_legalFields (legal : LegalFields op r 0 imm) : CommandWord (cmdWord op r imm) := by
  obtain ⟨hop, hr, -, hr0, himm, hseq, hidx, hbit, hsel⟩ := legal
  have noOperand : ([0, 4, 5, 9] : List (BitVec 4)) ⊆ [0, 4, 5, 6, 7, 8, 9] := by decide
  have prefixes : ([7, 8] : List (BitVec 4)) ⊆ [0, 4, 5, 6, 7, 8, 9] := by decide
  obtain h | h | rfl | rfl | h | rfl := op_formats hop
  · obtain rfl := hr0 (.inl (noOperand h))
    obtain rfl := himm h
    exact commandWord_noOperand h
  · exact commandWord_sequence h hr (hseq h)
  · exact commandWord_index hr (hidx rfl)
  · obtain rfl := hr0 (.inl (by decide))
    exact commandWord_bit (hbit rfl)
  · obtain rfl := hr0 (.inl (prefixes h))
    exact commandWord_prefix h
  · exact commandWord_read hr (hsel rfl) fun plain => hr0 (.inr ⟨rfl, plain⟩)

end formats

/-- A word is a command's exactly when its fields are legal. -/
theorem commandWord_iff_legalWord {w : CmdWord} : CommandWord w ↔ LegalWord w := by
  refine ⟨?_, fun legal => ?_⟩
  · rintro ⟨i, wf, rfl⟩
    exact legalWord_encode wf
  · obtain ⟨-, -, rsv, -⟩ := id legal
    rw [← cmdWord_fields rsv] at legal ⊢
    exact commandWord_of_legalFields (legalWord_cmdWord.mp legal)

/-- The words that do not decode are those that are no command's. -/
theorem decode_eq_error_iff {w : CmdWord} : decode w = .error .noRow ↔ ¬ CommandWord w := by
  refine ⟨?_, fun none => ?_⟩
  · rintro illegal ⟨i, wf, rfl⟩
    rw [decodeOfEncode i wf] at illegal
    cases illegal
  · cases h : decode w with
    | ok i => exact absurd ⟨i, encodeOfDecode w i h⟩ none
    | error e => cases e; rfl

open Machine in
/-- Settles O11: R82's list is the negation of `LegalWord`, case by case. -/
theorem illegalWordsExactly : Obligations.IllegalWordsExactly := by
  refine fun w => ⟨?_, fun illegal s => ?_⟩
  · rw [decode_eq_error_iff, commandWord_iff_legalWord]
    simp only [not_and_or, Classical.not_imp, not_lt, ne_eq, not_not]
  · rw [runWord_of_illegal illegal, State.raise_eq_afterError]
    rfl

end Sys2Proof
end

section
/-! PROOFS. One response for each command word (R57), of the form of R72 and with a code of R73. -/

namespace Sys2Proof.Machine

/-- Bits 27 to 24 of a response are zero (R72). -/
theorem rspWord_zero (code : BitVec 4) (data : Payload) : (rspWord code data).extractLsb' 24 4 = 0 := by
  unfold rspWord
  rw [BitVec.extractLsb'_append_eq_of_le (by decide)]
  exact BitVec.extractLsb'_append_eq_right

/-- The candidate of a FOUND response stands in its 22 low bits (R73). -/
theorem candidate_rspWord (code : BitVec 4) (y : YWord) : (rspWord code (toData y)).extractLsb' 0 22 = y := by
  unfold rspWord toData
  rw [BitVec.extractLsb'_append_eq_of_add_le (by decide), BitVec.extractLsb'_setWidth_of_le (by decide),
    BitVec.extractLsb'_eq_self]

/-- How a command word ends: in an error, in an OK response that leaves ERR, ECODE and the inputs alone, or, being SEARCH, as
a search does (R57, R73, R80). -/
theorem runWord_endings {w : CmdWord} {s t : State} (h : runWord w s = .next t) :
    (∃ e, t = s.raise e) ∨
      (∃ data, t.rspLog = s.rspLog ++ [rspWord codeOk data] ∧ t.err = s.err ∧ t.ecode = s.ecode ∧ t.inbox = s.inbox) ∨
      (∃ o, decode w = .ok .search ∧ t = s.endSearch o) := by
  cases hw : decode w with
  | ok i =>
    rw [runWord_of_decode hw] at h
    obtain herror | ⟨data, hlog, herr, hecode, hinbox, -⟩ | ⟨o, rfl, -, ht⟩ := exec_cases h
    · exact .inl herror
    · exact .inr (.inl ⟨data, hlog, herr, hecode, hinbox⟩)
    · exact .inr (.inr ⟨o, rfl, ht⟩)
  | error e =>
    rw [runWord_of_illegal hw] at h
    cases h
    exact .inl ⟨.illegal, rfl⟩

/-- Settles O48, by how the word ends: the response is written there, and its code says which of the clauses apply. -/
theorem oneResponsePerCommand : Obligations.OneResponsePerCommand := by
  intro w s
  obtain ⟨t, hrun⟩ := runWord_ends w s
  obtain ⟨e, rfl⟩ | ⟨data, hlog, herr, hecode, hinbox⟩ | ⟨o, hw, rfl⟩ := runWord_endings hrun
  · refine ⟨_, rspWord e.code 0, hrun, rfl, rfl, rspWord_zero _ _, ?_⟩
    rw [rspCode_rspWord, data_rspWord]
    cases e <;> simp [CmdError.code]
  · refine ⟨t, rspWord codeOk data, hrun, hlog, hinbox, rspWord_zero _ _, ?_⟩
    rw [rspCode_rspWord]
    exact ⟨by decide, fun _ => ⟨herr, hecode⟩, nofun, nofun, nofun⟩
  · cases o with
    | found y =>
      refine ⟨_, rspWord codeFound (toData y), hrun, rfl, rfl, rspWord_zero _ _, ?_⟩
      rw [rspCode_rspWord, candidate_rspWord]
      exact ⟨by decide, fun _ => ⟨rfl, rfl⟩, fun error => absurd error (by decide), fun _ => ⟨rfl, rfl, hw⟩, nofun⟩
    | exhausted =>
      refine ⟨_, rspWord codeExhausted 0, hrun, rfl, rfl, rspWord_zero _ _, ?_⟩
      rw [rspCode_rspWord, data_rspWord]
      exact ⟨by decide, fun _ => ⟨rfl, rfl⟩, fun error => absurd error (by decide), nofun, fun _ => ⟨rfl, rfl, hw⟩⟩

end Sys2Proof.Machine
end

section
/-! PROOFS. One clock of a register (R101, R103, R104): the feedback as a parity, the sequence form, the word form, and the
properties of the map. -/

namespace Sys2Proof.Machine

/-- One bit more changes whether a count is odd exactly when it is set. -/
theorem odd_add_bit (n : Nat) (b : Bool) : ((n + if b then 1 else 0) % 2 == 1) = b.xor (n % 2 == 1) := by
  cases b
  case false => simp
  case true => obtain h | h := Nat.mod_two_eq_zero_or_one n <;> simp [Nat.add_mod, h]

/-- The exclusive or of the `n` low bits is 1 when an odd number of them is set (R14). -/
theorem parityBelow_eq_countP {w : Nat} (v : BitVec w) (n : Nat) :
    parityBelow v n = ((List.range n).countP v.getLsbD % 2 == 1) := by
  induction n with
  | zero => rfl
  | succ n ih => rw [parityBelow, ih, List.range_succ, List.countP_append, List.countP_singleton, odd_add_bit]

theorem parity_eq_oddOnes {w : Nat} (v : BitVec w) : parity v = oddOnes v := parityBelow_eq_countP v w

/-- The exclusive or of a list of bits is 1 when an odd number of them is set. -/
theorem foldl_xor_eq_countP (p : Nat → Bool) (l : List Nat) (b : Bool) :
    l.foldl (fun acc i => acc.xor (p i)) b = b.xor (l.countP p % 2 == 1) := by
  induction l generalizing b with
  | nil => cases b <;> rfl
  | cons i l ih => rw [List.foldl_cons, ih, List.countP_cons, odd_add_bit, Bool.xor_assoc]

/-- A word has as many bits set by position as by weight (R13). -/
theorem countP_posBit {w : Nat} (v : BitVec w) : (List.range w).countP (posBit v) = (List.range w).countP v.getLsbD := by
  have hrev : (List.range w).reverse = (List.range w).map (w - 1 - ·) := by
    simp [List.range_eq_range', List.reverse_range']
  rw [← List.countP_reverse (l := List.range w), hrev, List.countP_map]
  refine List.countP_congr fun i hi => ?_
  have hlt : i < w := List.mem_range.mp hi
  rw [Function.comp, posBit_eq v (by omega), Nat.sub_sub_self (by omega)]

/-- The feedback is the exclusive or of the state's bits at the tap positions (R101). -/
theorem feedback_eq_foldl_taps {w : Nat} (s t : BitVec w) :
    feedback s t = ((List.range w).filter (posBit t)).foldl (fun acc i => acc.xor (posBit s i)) false := by
  have hand : (fun i => posBit s i && posBit t i) = posBit (s &&& t) := funext fun i => (BitVec.getMsbD_and ..).symm
  rw [foldl_xor_eq_countP, List.countP_filter, hand, countP_posBit, Bool.false_xor]
  exact parityBelow_eq_countP _ _

theorem posBit_clockNext_zero {w : Nat} (hw : 0 < w) (s t : BitVec w) : posBit (clockNext s t) 0 = feedback s t := by
  rw [posBit_eq _ hw, clockNext_getLsbD _ _ (by omega), if_pos (by omega)]

theorem posBit_clockNext_of_pos {w i : Nat} (hi : 1 ≤ i) (hiw : i < w) (s t : BitVec w) :
    posBit (clockNext s t) i = posBit s (i - 1) := by
  rw [posBit_eq _ hiw, clockNext_getLsbD _ _ (by omega), if_neg (by omega), posBit_eq _ (by omega)]
  congr 1
  omega

/-- Settles O13: position 0 is the feedback, and the other positions are those of the shift. -/
theorem clockShiftsSequence : Obligations.ClockShiftsSequence := fun _ s t hw =>
  ⟨(posBit_clockNext_zero hw s t).trans (feedback_eq_foldl_taps s t),
    fun _ hi hiw => posBit_clockNext_of_pos hi hiw s t, rfl⟩

/-- The bit that drops out is the one of weight 1 (R103). -/
theorem clockOut_eq {w : Nat} (hw : 0 < w) (s : BitVec w) : clockOut s = s.getLsbD 0 := by
  rw [clockOut, posBit_eq _ (by omega), Nat.sub_self]

/-- The feedback enters at weight `2^(w-1)`, above all bits of the shifted word, so the two add up (R103). -/
theorem clockNext_toNat {w : Nat} (hw : 0 < w) (s t : BitVec w) :
    (clockNext s t).toNat = (if feedback s t then 2 ^ (w - 1) else 0) + s.toNat / 2 := by
  have hpow : 2 ^ w = 2 ^ (w - 1) * 2 := by rw [← pow_succ, Nat.sub_add_cancel hw]
  have hshift : s.toNat / 2 < 2 ^ (w - 1) := by
    have hs : s.toNat < 2 ^ w := s.isLt
    omega
  have hdisjoint := Nat.mul_one _ ▸ Nat.two_pow_add_eq_or_of_lt hshift 1
  have htop : (BitVec.ofBool true).setWidth w <<< (w - 1) = BitVec.twoPow w (w - 1) := by
    rw [BitVec.twoPow_eq, show BitVec.ofBool true = 1#1 from rfl, BitVec.setWidth_ofNat_one_eq_ofNat_one_of_lt one_pos]
  rw [clockNext, BitVec.toNat_or, BitVec.toNat_ushiftRight, Nat.shiftRight_one]
  cases feedback s t
  case false => simp
  case true => rw [htop, BitVec.toNat_twoPow_of_lt (by omega), if_pos rfl, ← hdisjoint]

/-- Settles O14: the number of the next word, the feedback being an odd count of ones. -/
theorem clockWordForm : Obligations.ClockWordForm := fun _ s t hw =>
  ⟨parity_eq_oddOnes (s &&& t) ▸ clockNext_toNat hw s t, clockOut_eq hw s⟩

/-- The feedback is linear (R104). -/
theorem feedback_xor {w : Nat} (a b t : BitVec w) : feedback (a ^^^ b) t = (feedback a t).xor (feedback b t) := by
  have hand : (a ^^^ b) &&& t = (a &&& t) ^^^ (b &&& t) :=
    BitVec.eq_of_getLsbD_eq fun i _ => by simp [Bool.and_xor_distrib_right]
  rw [feedback, hand]
  exact parityBelow_xor _ _ _

theorem clockNext_xor {w : Nat} (a b t : BitVec w) : clockNext (a ^^^ b) t = clockNext a t ^^^ clockNext b t := by
  refine BitVec.eq_of_getLsbD_eq fun i hi => ?_
  rw [BitVec.getLsbD_xor, clockNext_getLsbD _ _ hi, clockNext_getLsbD _ _ hi, clockNext_getLsbD _ _ hi, feedback_xor,
    BitVec.getLsbD_xor]
  split <;> rfl

/-- The all-zero state is a fixed point, by linearity (R104). -/
@[simp] theorem clockNext_zero {w : Nat} (t : BitVec w) : clockNext (0#w) t = 0#w := by
  have h := clockNext_xor (0#w) (0#w) t
  rwa [BitVec.xor_self, BitVec.xor_self] at h

/-- With the empty tap set a clock only shifts (R104). -/
theorem clockNext_noTaps {w : Nat} (s : BitVec w) : clockNext s 0#w = s >>> 1 := by
  have hfb : feedback s 0#w = false := by simp [feedback, parity]
  simp [clockNext, hfb]

theorem iterate_clockNext_noTaps {w : Nat} (a : BitVec w) (n : Nat) :
    (fun v => clockNext v (0#w))^[n] a = a >>> n := by
  induction n with
  | zero => exact (BitVec.ushiftRight_zero a).symm
  | succ n ih => rw [Function.iterate_succ_apply', ih, clockNext_noTaps, BitVec.shiftRight_add]

/-- A word with a single bit set has odd parity (R14). -/
theorem parity_twoPow {w i : Nat} (hi : i < w) : parity (BitVec.twoPow w i) = true := by
  have hcount : (List.range w).countP (BitVec.twoPow w i).getLsbD = (List.range w).count i :=
    List.countP_congr fun j _ => by simp [hi, eq_comm (a := j)]
  rw [parity_eq_oddOnes, oddOnes, hcount, List.count_eq_one_of_mem List.nodup_range (List.mem_range.mpr hi)]
  rfl

/-- A single tap feeds back the bit at its position (R104). -/
theorem feedback_twoPow {w i : Nat} (hi : i < w) (s : BitVec w) : feedback s (BitVec.twoPow w i) = s.getLsbD i := by
  rw [feedback, BitVec.and_twoPow]
  cases s.getLsbD i
  case false => exact parityBelow_zero w
  case true => exact parity_twoPow hi

theorem feedback_comm {w : Nat} (s t : BitVec w) : feedback s t = feedback t s := by rw [feedback, BitVec.and_comm, feedback]

/-- The only state besides the all-zero one that a clock can empty is the one whose single bit drops out (R104). -/
theorem eq_zero_or_one_of_clockNext_eq_zero {w : Nat} (hw : 0 < w) {s t : BitVec w} (h : clockNext s t = 0#w) :
    s = 0#w ∨ s = 1#w := by
  have hsum := clockNext_toNat hw s t
  rw [h, BitVec.toNat_zero] at hsum
  have hone : 1 % 2 ^ w = 1 := Nat.mod_eq_of_lt (Nat.one_lt_two_pow hw.ne')
  have hnum : s.toNat = 0 ∨ s.toNat = 1 := by omega
  exact hnum.imp (fun h0 => BitVec.eq_of_toNat_eq (by simpa using h0))
    fun h1 => BitVec.eq_of_toNat_eq (by rw [h1, BitVec.toNat_ofNat, hone])

/-- Whether a clock empties that state is up to the tap at the last position (R104). -/
theorem clockNext_one_eq_zero_iff {w : Nat} (hw : 0 < w) (t : BitVec w) :
    clockNext (1#w) t = 0#w ↔ posBit t (w - 1) = false := by
  have hfb : feedback (1#w) t = posBit t (w - 1) := by
    rw [feedback_comm, ← BitVec.twoPow_zero, feedback_twoPow hw, ← clockOut_eq hw, clockOut]
  have hlast : (1#w).toNat / 2 = 0 := Nat.div_eq_of_lt ((Nat.mod_le _ _).trans_lt one_lt_two)
  rw [← hfb, BitVec.toNat_eq, clockNext_toNat hw, hlast]
  cases feedback (1#w) t <;> simp

/-- Clock is invertible exactly when the last position is a tap (R104). -/
theorem clockNext_injective_iff {w : Nat} (hw : 0 < w) (t : BitVec w) :
    Function.Injective (fun s => clockNext s t) ↔ posBit t (w - 1) = true := by
  constructor
  · intro inj
    by_contra notTap
    have hone := (clockNext_one_eq_zero_iff hw t).mpr (Bool.eq_false_of_not_eq_true notTap)
    have hcollapse : 1#w = 0#w := inj (hone.trans (clockNext_zero t).symm)
    exact absurd hcollapse (by simp [hw.ne'])
  · intro tap a b hab
    have hker : clockNext (a ^^^ b) t = 0#w := by
      rw [clockNext_xor]
      exact BitVec.xor_eq_zero_iff.mpr hab
    obtain h0 | h1 := eq_zero_or_one_of_clockNext_eq_zero hw hker
    · exact BitVec.xor_eq_zero_iff.mp h0
    · rw [h1, clockNext_one_eq_zero_iff hw, tap] at hker
      cases hker

/-- Settles O15: linearity and invertibility are the lemmas above; the feedbacks of a single tap are `feedback_twoPow` at the
last position (weight 1) and at position 0 (weight `2^(w-1)`). -/
theorem clockProperties : Obligations.ClockProperties := by
  refine fun w hw t => ⟨fun a b => clockNext_xor a b t, clockNext_zero t, fun a => ?_, clockNext_injective_iff hw t,
    fun a => ?_, fun a => ?_⟩
  · exact (iterate_clockNext_noTaps a w).trans (BitVec.ushiftRight_eq_zero le_rfl)
  · rw [posBit_clockNext_zero hw, clockOut_eq hw]
    exact (congrArg (feedback a) BitVec.twoPow_zero.symm).trans (feedback_twoPow hw a)
  · have hmask : ((1 <<< (w - 1) : Nat) : BitVec w) = BitVec.twoPow w (w - 1) := by
      rw [Nat.one_shiftLeft, BitVec.natCast_eq_ofNat]
      exact BitVec.eq_of_toNat_eq (by rw [BitVec.toNat_twoPow, BitVec.toNat_ofNat])
    rw [posBit_clockNext_zero hw, posBit_eq _ hw, hmask]
    exact feedback_twoPow (Nat.sub_lt hw one_pos) _

end Sys2Proof.Machine
end

section
/-! PROOFS. SETTAP and SEED (R106, R107): one write and the answer OK(0), the command word, and the illegal words. -/

namespace Sys2Proof

/-- An assembled word is its opcode and selector over the zero-extended operand (R70, R74). -/
theorem cmdWord_setWidth_eq_or (op : BitVec 4) (r : BitVec 2) {n : Nat} (m : BitVec n) (hn : n ≤ 24 := by decide) :
    cmdWord op r (m.setWidth 24) = (op ++ r ++ (0 : BitVec 26)) ||| m.setWidth 32 := by
  have hm : m.toNat < 2 ^ 24 := m.isLt.trans_le (Nat.pow_le_pow_right two_pos hn)
  apply BitVec.eq_of_toNat_eq
  simp only [cmdWord, BitVec.toNat_or, BitVec.toNat_append, BitVec.toNat_setWidth, BitVec.ofNat_eq_ofNat,
    BitVec.toNat_ofNat, Nat.zero_mod, Nat.or_zero, ← Nat.shiftLeft_add]
  rw [Nat.mod_eq_of_lt hm, Nat.mod_eq_of_lt (hm.trans (by decide))]

namespace Machine

theorem exec_settapOf (r : Reg) (mask : BitVec r.width) (s : State) :
    exec (settapOf r mask) s = .next ((s.writeTap r mask).answered 0) := by
  cases r <;> exact congrArg Host.Outcome.next (State.ok_eq_answered _ _)

theorem exec_seedOf (r : Reg) (bits : BitVec r.width) (s : State) :
    exec (seedOf r bits) s = .next ((s.writeSeed r bits).answered 0) := by
  cases r <;> exact congrArg Host.Outcome.next (State.ok_eq_answered _ _)

/-- A word of SETTAP's or SEED's opcode that names no register, or has a bit above the register's width, is illegal (R82). -/
theorem runWord_of_illegal_sequence {w : CmdWord} (op : cmdOp w ∈ [1, 3])
    (illegal : cmdSel w = 3 ∨ (cmdSel w = 0 ∧ 2 ^ 19 ≤ (cmdImm w).toNat) ∨ (cmdSel w = 1 ∧ 2 ^ 22 ≤ (cmdImm w).toNat) ∨
      (cmdSel w = 2 ∧ 2 ^ 23 ≤ (cmdImm w).toNat)) (s : State) : runWord w s = .next (s.afterError 8) := by
  obtain ⟨listed, answers⟩ := illegalWordsExactly w
  refine answers (listed.mpr ?_) s
  obtain noRegister | wide := illegal
  · exact .inr (.inl noRegister)
  · exact .inr (.inr (.inr (.inr (.inr (.inl ⟨op, wide⟩)))))

/-- Settles O17: the write of SETTAP and its word for each register, and the illegal words of its opcode. -/
theorem settapWritesTapSet : Obligations.SettapWritesTapSet :=
  fun s => ⟨fun m => ⟨⟨_, exec_settapOf .x m s, rfl⟩, cmdWord_setWidth_eq_or 1 0 m⟩,
    fun m => ⟨⟨_, exec_settapOf .y m s, rfl⟩, cmdWord_setWidth_eq_or 1 1 m⟩,
    fun m => ⟨⟨_, exec_settapOf .z m s, rfl⟩, cmdWord_setWidth_eq_or 1 2 m⟩,
    fun _ op illegal => runWord_of_illegal_sequence (by simp [op]) illegal s⟩

/-- Settles O18: the write of SEED and its word for each register, and the illegal words of its opcode. -/
theorem seedWritesSeed : Obligations.SeedWritesSeed :=
  fun s => ⟨fun b => ⟨exec_seedOf .x b s, cmdWord_setWidth_eq_or 3 0 b⟩,
    fun b => ⟨exec_seedOf .y b s, cmdWord_setWidth_eq_or 3 1 b⟩,
    fun b => ⟨exec_seedOf .z b s, cmdWord_setWidth_eq_or 3 2 b⟩,
    fun _ op wide => runWord_of_illegal_sequence (by simp [op]) (.inr wide) s⟩

end Machine
end Sys2Proof
end

section
/-! PROOFS. The majority clock: the majority of three bits (R120), who advances in a step (R121 to R123), and SETCLK (R124). -/

namespace Sys2Proof

/-- A command word that carries an index is its opcode and selector over the index (R70, R76). -/
theorem cmdWord_index_eq_or (op : BitVec 4) (r : BitVec 2) {idx : Nat} (h : idx < 32) :
    cmdWord op r (BitVec.ofNat 24 idx) = (op ++ r ++ (0 : BitVec 26)) ||| BitVec.ofNat 32 idx := by
  have extend : (BitVec.ofNat 24 idx).setWidth 32 = BitVec.ofNat 32 idx :=
    BitVec.setWidth_ofNat_of_le_of_lt (by decide) (h.trans (by decide))
  rw [← extend, ← cmdWord_setWidth_eq_or op r, BitVec.setWidth_eq]

namespace Machine

theorem maj_eq_true_iff (a b c : Bool) : maj a b c = true ↔ 2 ≤ a.toNat + b.toNat + c.toNat := by decide +revert

/-- Settles O19: the tabled values, and the majority as a count. -/
theorem majorityTruthTable : Obligations.MajorityTruthTable :=
  ⟨rfl, rfl, rfl, rfl, rfl, rfl, rfl, rfl, maj_eq_true_iff⟩

/-! Two bits that agree are the majority, whatever the third is. -/

@[simp] theorem maj_agree_fst_snd (a d : Bool) : maj a a d = a := by decide +revert

@[simp] theorem maj_agree_fst_trd (a b : Bool) : maj a b a = a := by decide +revert

@[simp] theorem maj_agree_snd_trd (a b : Bool) : maj a b b = b := by decide +revert

/-- The registers after a step, from the three clocking bits before it (R121, R122). -/
theorem genStep_regs {c : Cfg} {g : Regs} {a b d : Bool} (ha : a = posBit g.x c.clk.x.toNat)
    (hb : b = posBit g.y c.clk.y.toNat) (hd : d = posBit g.z c.clk.z.toNat) :
    (genStep c g).1 = ⟨if a = maj a b d then clockNext g.x c.tap.x else g.x,
      if b = maj a b d then clockNext g.y c.tap.y else g.y, if d = maj a b d then clockNext g.z c.tap.z else g.z⟩ := by
  subst ha hb hd
  simp only [genStep, moveRegs, advances, majorityBit, clockingBits, beq_iff_eq]

/-- Settles O20: the majority is the bit that two registers share, so those two advance, and the third if its bit is that one. -/
theorem agreeingRegistersAdvance : Obligations.AgreeingRegistersAdvance := by
  intro c g a b d ha hb hd
  rw [genStep_regs ha hb hd]
  refine ⟨?_, ?_, ?_, ?_⟩
  · rintro rfl rfl
    simp
  · rintro rfl odd
    simp [odd.symm]
  · rintro rfl odd
    simp [odd.symm]
  · rintro rfl odd
    simp [odd]

section setclk
variable {r : Reg} {idx : Nat} (s : State)

theorem exec_setclkOf_of_inRange (h : idx ≤ r.width - 1) :
    exec (setclkOf r idx) s = .next ((s.writeClk r (BitVec.ofNat 5 idx)).answered 0) := by
  rw [exec_setclkOf, setClkIndex_eq, if_pos h]

theorem exec_setclkOf_of_outOfRange (h : r.width - 1 < idx) : exec (setclkOf r idx) s = .next (s.afterError 9) := by
  rw [exec_setclkOf, setClkIndex_eq, if_neg h.not_ge]

end setclk

/-- Settles O23: the write or the error of SETCLK for each register, and the three words. -/
theorem setclkWritesOrFails : Obligations.SetclkWritesOrFails :=
  fun s _ => ⟨fun h => ⟨_, exec_setclkOf_of_inRange (r := .x) s h, rfl⟩, exec_setclkOf_of_outOfRange (r := .x) s,
    fun h => ⟨_, exec_setclkOf_of_inRange (r := .y) s h, rfl⟩, exec_setclkOf_of_outOfRange (r := .y) s,
    fun h => ⟨_, exec_setclkOf_of_inRange (r := .z) s h, rfl⟩, exec_setclkOf_of_outOfRange (r := .z) s,
    fun h => ⟨cmdWord_index_eq_or 2 0 h, cmdWord_index_eq_or 2 1 h, cmdWord_index_eq_or 2 2 h⟩⟩

end Machine
end Sys2Proof
end

section
/-! PROOFS. The keystream generator: a step in word form and its output (R132, R133), Generate (R136), degenerate generators
(R138), INIT and STEP (R134, R135). -/

namespace Sys2Proof.Machine

section register
variable {w : Nat} (s t : BitVec w) (moves : Prop) [Decidable moves]

/-- The word of a register that moves, or not, in a step (R133). -/
theorem toNat_ite_clockNext (hw : 0 < w) : (if moves then clockNext s t else s).toNat =
    if moves then (if oddOnes (s &&& t) then 2 ^ (w - 1) else 0) + s.toNat / 2 else s.toNat := by
  obtain ⟨next, -⟩ := clockWordForm w s t hw
  rw [apply_ite BitVec.toNat, next]

/-- The last bit of a register after a step is the last but one before it if the register moves (R101, R132). -/
theorem posBit_last_ite_clockNext (hw : 2 ≤ w) : posBit (if moves then clockNext s t else s) (w - 1) =
    if moves then posBit s (w - 2) else posBit s (w - 1) := by
  split
  · exact posBit_clockNext_of_pos (by omega) (by omega) s t
  · rfl

end register

/-- The combiner reads the three low bits (R13, R133). -/
theorem combine_eq_getLsbD (g : Regs) :
    combine g = ((g.x.getLsbD 0).xor (g.y.getLsbD 0)).xor (g.z.getLsbD 0) :=
  congrArg₂ Bool.xor (congrArg₂ Bool.xor (clockOut_eq (by decide) g.x) (clockOut_eq (by decide) g.y))
    (clockOut_eq (by decide) g.z)

/-- Settles O21: each register moves or not as `genStep_regs` says, and the output is the combiner of the registers moved. -/
theorem generatorStepWordForm : Obligations.GeneratorStepWordForm := by
  intro c g hx hy hz a b d m ha hb hd hm
  subst hm
  have regs := genStep_regs (c := c) (g := g) (ha.trans (posBit_eq g.x (by omega)).symm)
    (hb.trans (posBit_eq g.y (by omega)).symm) (hd.trans (posBit_eq g.z (by omega)).symm)
  refine ⟨?_, ?_, ?_, combine_eq_getLsbD (genStep c g).1⟩
  all_goals
    rw [regs]
    exact toNat_ite_clockNext _ _ _ (by decide)

/-- Settles O22: the last bit of each register after its move. -/
theorem outputReadAfterMoves : Obligations.OutputReadAfterMoves := fun _ _ =>
  congrArg₂ Bool.xor
    (congrArg₂ Bool.xor (posBit_last_ite_clockNext _ _ _ (by decide)) (posBit_last_ite_clockNext _ _ _ (by decide)))
    (posBit_last_ite_clockNext _ _ _ (by decide))

/-- `n + m` steps are `n` steps and then `m` (R131, R136). -/
theorem generate_add (c : Cfg) (g : Regs) (n m : Nat) : generate c g (n + m) =
    ((generate c (generate c g n).1 m).1, (generate c g n).2 ++ (generate c (generate c g n).1 m).2) := by
  induction n generalizing g with
  | zero => rw [Nat.zero_add]; rfl
  | succ n ih => rw [Nat.add_right_comm, generate, ih]; rfl

/-- Settles O27: the recursion of Generate, the length, and the splitting by induction on the first piece. -/
theorem generateSplits : Obligations.GenerateSplits := fun c g =>
  ⟨rfl, fun _ => rfl, generate_length c g, generate_add c g⟩

/-- A generator that a step leaves as it is answers the same bit for ever (R138). -/
theorem generate_of_fixed {c : Cfg} {g : Regs} {b : Bool} (fixed : genStep c g = (g, b)) (n : Nat) :
    generate c g n = (g, List.replicate n b) := by
  induction n with
  | zero => rfl
  | succ n ih => simp only [generate, fixed, ih, List.replicate_succ]

@[simp] theorem posBit_zero (w i : Nat) : posBit (0#w) i = false := BitVec.getMsbD_zero

/-- With X and Z all zero the keystream bit is Y's last bit (R138). -/
theorem combine_y (y : YWord) : combine ⟨0, y, 0⟩ = posBit y 21 := by simp [combine]

/-- With X and Z all zero, Y moves while its clocking bit is 0: the three clocking bits agree (R123, R138). -/
theorem genStep_y_moves {c : Cfg} {y : YWord} (bit : posBit y c.clk.y.toNat = false) :
    (genStep c ⟨0, y, 0⟩).1 = ⟨0, clockNext y c.tap.y, 0⟩ := by
  obtain ⟨allMove, -⟩ := agreeingRegistersAdvance c ⟨0, y, 0⟩ false false false (posBit_zero ..).symm bit.symm
    (posBit_zero ..).symm
  simpa using allMove rfl rfl

/-- With X and Z all zero, a register Y whose clocking bit is 1 is the odd one and holds (R123, R138). -/
theorem genStep_y_stalls {c : Cfg} {y : YWord} (bit : posBit y c.clk.y.toNat = true) :
    (genStep c ⟨0, y, 0⟩).1 = ⟨0, y, 0⟩ := by
  obtain ⟨-, -, yHolds, -⟩ := agreeingRegistersAdvance c ⟨0, y, 0⟩ false true false (posBit_zero ..).symm bit.symm
    (posBit_zero ..).symm
  simpa using yHolds rfl nofun

/-- A step that leaves X and Z all zero and Y as it is answers Y's last bit. -/
theorem genStep_y_fixed {c : Cfg} {y : YWord} (holds : (genStep c ⟨0, y, 0⟩).1 = ⟨0, y, 0⟩) :
    genStep c ⟨0, y, 0⟩ = (⟨0, y, 0⟩, posBit y 21) :=
  Prod.ext holds ((congrArg combine holds).trans (combine_y y))

/-- Settles O51: all zero registers move to all zero, and a stalled Y holds; either way the generator is a fixed point. -/
theorem generatorStalls : Obligations.GeneratorStalls := by
  refine fun c n => ⟨?_, fun y bit => generate_of_fixed (genStep_y_fixed (genStep_y_stalls bit)) n,
    fun y bit => genStep_y_moves bit⟩
  have holds : (genStep c ⟨0, 0, 0⟩).1 = ⟨0, 0, 0⟩ := by simpa using genStep_y_moves (c := c) (posBit_zero 22 _)
  exact generate_of_fixed (genStep_y_fixed holds) n

theorem Marks.all_eq_true_iff {m : Marks} : m.all = true ↔ m = ⟨true, true, true⟩ := by
  rw [Marks.all_iff, Marks.mk.injEq]

/-- INIT needs all nine flags (R134). -/
theorem State.initReady_iff {s : State} : s.initReady = true ↔
    s.vtap = ⟨true, true, true⟩ ∧ s.vclk = ⟨true, true, true⟩ ∧ s.vseed = ⟨true, true, true⟩ := by
  simp only [State.initReady, Bool.and_eq_true, Marks.all_eq_true_iff, and_assoc]

theorem exec_init_of_ready {s : State} (ready : s.initReady = true) :
    exec .init s = .next (s.construct.answered 0) :=
  congrArg Host.Outcome.next ((if_pos ready).trans (s.construct.ok_eq_answered 0))

theorem exec_init_of_not_ready {s : State} (notReady : ¬ s.initReady = true) :
    exec .init s = .next (s.afterError 10) :=
  congrArg Host.Outcome.next ((if_neg notReady).trans (s.raise_eq_afterError .uninit))

/-- Settles O24: the two ways INIT ends; after the first the flags and the seeds are as before, so a second INIT only answers. -/
theorem initConstructsGenerator : Obligations.InitConstructsGenerator := by
  refine fun s => ⟨fun htap hclk hseed => ?_, fun missing => ?_, rfl⟩
  · have ready : s.initReady = true := State.initReady_iff.mpr ⟨htap, hclk, hseed⟩
    exact ⟨_, exec_init_of_ready ready, rfl, exec_init_of_ready ready⟩
  · exact exec_init_of_not_ready (mt State.initReady_iff.mp missing)

theorem exec_step_of_valid {s : State} (valid : s.gv = true) : exec .step s =
    .next ((s.moveTo (genStep s.cfg s.lfsr).1).answered (if (genStep s.cfg s.lfsr).2 then 1 else 0)) := by
  have h := stepWith_eq false s
  rw [if_pos valid, Bool.false_bne] at h
  exact congrArg Host.Outcome.next h

theorem exec_step_of_not_valid {s : State} (notValid : s.gv = false) : exec .step s = .next (s.afterError 10) := by
  have h := stepWith_eq false s
  rw [if_neg (by simp [notValid])] at h
  exact congrArg Host.Outcome.next h

/-- Settles O25: the two ways STEP ends, and its word. -/
theorem stepDrawsKeystreamBit : Obligations.StepDrawsKeystreamBit :=
  fun _ => ⟨exec_step_of_valid, exec_step_of_not_valid, rfl⟩

end Sys2Proof.Machine
end

section
/-! PROOFS. The cipher transform: Decrypt as an exclusive or of two sequences (R150, R151), and CRYPT (R152). -/

namespace Sys2Proof.Machine

theorem decrypt_eq_zipWith (bits ks : List Bool) : decrypt bits ks = List.zipWith Bool.xor bits ks := by
  induction bits generalizing ks with
  | nil => rfl
  | cons b bits ih =>
    cases ks with
    | nil => rfl
    | cons k ks => exact congrArg (b.xor k :: ·) (ih ks)

theorem decrypt_length (bits ks : List Bool) : (decrypt bits ks).length = min bits.length ks.length := by
  rw [decrypt_eq_zipWith, List.length_zipWith]

theorem decrypt_getElem? {bits ks : List Bool} {j : Nat} {b k : Bool} (hb : bits[j]? = some b) (hk : ks[j]? = some k) :
    (decrypt bits ks)[j]? = some (b != k) := by
  rw [decrypt_eq_zipWith, List.getElem?_zipWith, hb, hk]

theorem decrypt_comm (bits ks : List Bool) : decrypt bits ks = decrypt ks bits := by
  rw [decrypt_eq_zipWith, decrypt_eq_zipWith, List.zipWith_comm_of_comm Bool.xor_comm]

/-- Combining twice with the same bits gives back what they cover (R151). -/
theorem decrypt_decrypt (bits ks : List Bool) : decrypt bits (decrypt bits ks) = ks.take bits.length := by
  induction bits generalizing ks with
  | nil => rfl
  | cons b bits ih =>
    cases ks with
    | nil => rfl
    | cons k ks => simp [decrypt, ih]

/-- Only as many keystream bits are used as there are data bits (R150): combine three times. -/
theorem decrypt_take (bits ks : List Bool) : decrypt bits (ks.take bits.length) = decrypt bits ks := by
  rw [← decrypt_decrypt, decrypt_decrypt, List.take_of_length_le]
  rw [decrypt_length]
  exact Nat.min_le_left ..

section enough
variable {bits ks : List Bool} (enough : bits.length ≤ ks.length)
include enough

/-- The round-trip law (R151). -/
theorem decrypt_involutive : decrypt (decrypt bits ks) ks = bits := by
  rw [decrypt_comm, decrypt_comm bits, decrypt_decrypt, List.take_of_length_le enough]

/-- Surplus keystream is ignored (R150). -/
theorem decrypt_append (more : List Bool) : decrypt bits (ks ++ more) = decrypt bits ks := by
  rw [← decrypt_take, List.take_append_of_le_length enough, decrypt_take]

end enough

/-- The other form of the search's test (R151): either equation follows from the other by combining both sides with the data. -/
theorem decrypt_eq_iff {bits ks target : List Bool} (sameLength : target.length = bits.length) :
    decrypt bits ks = target ↔ ks.take bits.length = decrypt bits target := by
  constructor
  · rintro rfl
    exact (decrypt_decrypt bits ks).symm
  · intro prefixIs
    rw [← decrypt_take, prefixIs, decrypt_decrypt, List.take_of_length_le sameLength.le]

/-- Settles O30: Decrypt is an exclusive or of two sequences, which undoes itself. -/
theorem decryptIsInvolution : Obligations.DecryptIsInvolution := fun bits ks enough =>
  ⟨(decrypt_length bits ks).trans (Nat.min_eq_left enough), fun _ _ _ => decrypt_getElem?, decrypt_involutive enough,
    decrypt_append enough, fun _ => decrypt_eq_iff⟩

theorem exec_crypt_of_valid {s : State} (b : Bool) (valid : s.gv = true) : exec (.crypt b) s =
    .next ((s.moveTo (genStep s.cfg s.lfsr).1).answered (if b != (genStep s.cfg s.lfsr).2 then 1 else 0)) :=
  congrArg Host.Outcome.next ((stepWith_eq b s).trans (if_pos valid))

theorem exec_crypt_of_not_valid {s : State} (b : Bool) (notValid : s.gv = false) :
    exec (.crypt b) s = .next (s.afterError 10) :=
  congrArg Host.Outcome.next ((stepWith_eq b s).trans (if_neg (by simp [notValid])))

/-- Settles O26: the two ways CRYPT ends, STEP as CRYPT of a 0, and the two words. -/
theorem cryptCombinesBit : Obligations.CryptCombinesBit :=
  fun _ b => ⟨exec_crypt_of_valid b, exec_crypt_of_not_valid b, rfl, by cases b <;> rfl⟩

end Sys2Proof.Machine
end

section
/-! PROOFS. The recovery search as a function: a trial as a match of keystreams (R163), the answer of the scan (R162), and
when it is the true state (R174). -/

namespace Sys2Proof.Machine

/-- A list of bits is the sequence of a word when it has the word's bit at every position (R13). -/
theorem eq_seqOfWord_iff {n : Nat} {bits : List Bool} (length : bits.length = n) (v : BitVec n) :
    bits = seqOfWord v ↔ ∀ i < n, bits[i]? = some (posBit v i) := by
  refine ⟨fun h i hi => h ▸ seqOfWord_getElem? v hi, fun same => List.ext_getElem? fun i => ?_⟩
  by_cases hi : i < n
  · rw [same i hi, seqOfWord_getElem? v hi]
  · rw [List.getElem?_eq_none (by omega), List.getElem?_eq_none (by simp; omega)]

@[simp] theorem posBit_xor {n : Nat} (v w : BitVec n) (i : Nat) : posBit (v ^^^ w) i = (posBit v i).xor (posBit w i) :=
  BitVec.getMsbD_xor

/-- Combining the sequences of two words gives the sequence of their exclusive or (R150). -/
theorem decrypt_seqOfWord {n : Nat} (v w : BitVec n) : decrypt (seqOfWord v) (seqOfWord w) = seqOfWord (v ^^^ w) := by
  refine (eq_seqOfWord_iff (by simp [decrypt_length]) _).mpr fun i hi => ?_
  rw [decrypt_getElem? (seqOfWord_getElem? v hi) (seqOfWord_getElem? w hi), posBit_xor]

section trial
variable {c : Cfg} {sx : XWord} {y : YWord} {sz : ZWord} {ct kp : Payload}

theorem trial_iff_decrypt :
    trial c sx y sz ct kp = true ↔ decrypt (seqOfWord ct) (generate c ⟨sx, y, sz⟩ 24).2 = seqOfWord kp :=
  beq_iff_eq

/-- The equivalent form of a trial (R163): the keystream is the exclusive or of the prefixes. -/
theorem trial_iff_keystream :
    trial c sx y sz ct kp = true ↔ (generate c ⟨sx, y, sz⟩ 24).2 = seqOfWord (ct ^^^ kp) := by
  rw [trial_iff_decrypt, decrypt_eq_iff (by simp), decrypt_seqOfWord, List.take_of_length_le (by simp)]

/-- The same bit by bit (R163). -/
theorem trial_iff_posBit :
    trial c sx y sz ct kp = true ↔ ∀ j < 24, (generate c ⟨sx, y, sz⟩ 24).2[j]? = some (posBit (ct ^^^ kp) j) :=
  trial_iff_keystream.trans (eq_seqOfWord_iff (by simp) _)

/-- Settles O32: both forms bit by bit, and in the second the prefixes occur in their exclusive or only. -/
theorem trialIsPrefixMatch : Obligations.TrialIsPrefixMatch := by
  refine fun c sx y sz ct kp => ⟨?_, ?_, Bool.eq_iff_iff.mpr ?_⟩
  · rw [trial_iff_decrypt, eq_seqOfWord_iff (by simp [decrypt_length])]
    exact forall₂_congr fun j hj => by rw [posBit_eq kp hj]
  · rw [trial_iff_posBit]
    exact forall₂_congr fun j hj => by rw [posBit_eq _ hj]
  · rw [trial_iff_keystream, trial_iff_keystream, BitVec.ofNat_eq_ofNat, BitVec.xor_zero]

end trial

section scan
variable {c : Cfg} {sx : XWord} {sz : ZWord} {ct kp : Payload} {y y' : YWord}

/-- The two ways a search ends (R162). -/
theorem searchAll_cases (c : Cfg) (sx : XWord) (sz : ZWord) (ct kp : Payload) :
    (∃ y, searchAll c sx sz ct kp = .found y ∧ FirstHit c sx sz ct kp y) ∨
      (searchAll c sx sz ct kp = .exhausted ∧ ∀ y, trial c sx y sz ct kp = false) := by
  have count : 0 + Config.nCand = 2 ^ 22 := rfl
  obtain ⟨k, -, hk, found, passes, below⟩ | ⟨exhausted, fails⟩ := searchFrom_spec c sx sz ct kp Config.nCand 0
  · refine .inl ⟨_, found, passes, fun y hy => ?_⟩
    rw [BitVec.toNat_ofNat, Nat.mod_eq_of_lt (count ▸ hk)] at hy
    simpa using below y.toNat y.toNat.zero_le hy
  · refine .inr ⟨exhausted, fun y => ?_⟩
    simpa using fails y.toNat y.toNat.zero_le (count ▸ y.isLt)

theorem FirstHit.unique (h : FirstHit c sx sz ct kp y) (h' : FirstHit c sx sz ct kp y') : y = y' := by
  obtain ⟨passes, below⟩ := h
  obtain ⟨passes', below'⟩ := h'
  obtain lt | eq | gt := lt_trichotomy y.toNat y'.toNat
  · exact absurd passes (by simp [below' y lt])
  · exact BitVec.eq_of_toNat_eq eq
  · exact absurd passes' (by simp [below y' gt])

theorem searchAll_eq_found_iff : searchAll c sx sz ct kp = .found y ↔ FirstHit c sx sz ct kp y := by
  obtain ⟨y', found, first⟩ | ⟨exhausted, fails⟩ := searchAll_cases c sx sz ct kp
  · rw [found, SearchOutcome.found.injEq]
    exact ⟨fun h => h ▸ first, first.unique⟩
  · rw [exhausted]
    exact ⟨nofun, fun ⟨passes, _⟩ => absurd passes (by simp [fails y])⟩

theorem searchAll_eq_exhausted_iff : searchAll c sx sz ct kp = .exhausted ↔ ∀ y, trial c sx y sz ct kp = false := by
  obtain ⟨y, found, passes, -⟩ | ⟨exhausted, fails⟩ := searchAll_cases c sx sz ct kp
  · rw [found]
    exact ⟨nofun, fun fails => absurd passes (by simp [fails y])⟩
  · exact ⟨fun _ => fails, fun _ => exhausted⟩

/-- Settles O31: the two ways the scan ends exclude each other, and the least hit is unique. -/
theorem searchFindsLeastCandidate : Obligations.SearchFindsLeastCandidate :=
  fun _ _ _ _ _ => ⟨fun _ => searchAll_eq_found_iff, searchAll_eq_exhausted_iff⟩

/-- A candidate passes its trial on the plaintext encrypted with it (R151, R163). -/
theorem trial_of_encrypted (c : Cfg) (sx : XWord) (y : YWord) (sz : ZWord) (kp : Payload) :
    trial c sx y sz (wordOfSeq 24 (decrypt (seqOfWord kp) (generate c ⟨sx, y, sz⟩ 24).2)) kp = true := by
  rw [trial_iff_decrypt, seqOfWord_wordOfSeq (by simp [decrypt_length]), decrypt_involutive (by simp)]

/-- Settles O36: candidates that pass the same trial have the same keystream, so none below the true one passes. -/
theorem searchRecoversLeastTrueState : Obligations.SearchRecoversLeastTrueState := by
  intro c sx sz kp y0 distinct
  have passes := trial_of_encrypted c sx y0 sz kp
  refine searchAll_eq_found_iff.mpr ⟨passes, fun y hy => Bool.eq_false_iff.mpr fun passesToo => distinct y hy ?_⟩
  exact (trial_iff_keystream.mp passesToo).trans (trial_iff_keystream.mp passes).symm

end scan

end Sys2Proof.Machine
end

section
/-! PROOFS. The commands of the recovery search: SETCT and SETKP (R164, R165) and SEARCH (R166). -/

namespace Sys2Proof.Machine

theorem seqOfWord_append {n m : Nat} (v : BitVec n) (w : BitVec m) : seqOfWord (v ++ w) = seqOfWord v ++ seqOfWord w := by
  refine ((eq_seqOfWord_iff (by simp) _).mpr fun i hi => ?_).symm
  rw [posBit, BitVec.getMsbD_append]
  by_cases first : i < n
  · rw [List.getElem?_append_left (by simpa using first), seqOfWord_getElem? v first]
    simp [first, posBit]
  · rw [List.getElem?_append_right (by simpa using first), seqOfWord_length, seqOfWord_getElem? w (by omega)]
    simp [first, posBit]

/-- A word put before another stands above it (R13). -/
theorem setWidth_append_eq_or {n m : Nat} (k : Nat) (v : BitVec n) (w : BitVec m) :
    (v ++ w).setWidth k = v.setWidth k <<< m ||| w.setWidth k := by
  refine BitVec.eq_of_getLsbD_eq fun i hi => ?_
  by_cases low : i < m
  · simp [BitVec.getLsbD_append, hi, low]
  · have above : w.getLsbD i = false := BitVec.getLsbD_of_ge w i (by omega)
    simp [BitVec.getLsbD_append, hi, low, above]

/-- The operand that three characters give (R164, R165). -/
theorem wordOfSeq_three_characters (c0 c1 c2 : BitVec 8) : wordOfSeq 24 (textToBits id [c0, c1, c2]) =
    c0.setWidth 24 <<< 16 ||| c1.setWidth 24 <<< 8 ||| c2.setWidth 24 := by
  have text : textToBits id [c0, c1, c2] = seqOfWord (c0 ++ c1 ++ c2) := by
    rw [seqOfWord_append, seqOfWord_append]
    simp [textToBits]
  calc wordOfSeq 24 (textToBits id [c0, c1, c2])
      = (c0 ++ c1 ++ c2).setWidth 24 := by rw [text, BitVec.setWidth_eq]; exact wordOfSeq_seqOfWord _
    _ = c0.setWidth 24 <<< 16 ||| c1.setWidth 24 <<< 8 ||| c2.setWidth 24 := by
      rw [setWidth_append_eq_or, setWidth_append_eq_or, BitVec.shiftLeft_or_distrib, ← BitVec.shiftLeft_add]

/-- A command word whose operand fills the payload (R70). -/
theorem cmdWord_eq_or (op : BitVec 4) (r : BitVec 2) (imm : Payload) :
    cmdWord op r imm = (op ++ r ++ (0 : BitVec 26)) ||| imm.setWidth 32 := by
  rw [← cmdWord_setWidth_eq_or op r imm, BitVec.setWidth_eq]

/-- Settles O37: the two writes and their words, and the operand of three characters. -/
theorem prefixWrites : Obligations.PrefixWrites := fun s p =>
  ⟨congrArg Host.Outcome.next ((s.writeCt p).ok_eq_answered 0), congrArg Host.Outcome.next ((s.writeKp p).ok_eq_answered 0),
    cmdWord_eq_or 7 0 p, cmdWord_eq_or 8 0 p, wordOfSeq_three_characters⟩

/-- SEARCH needs ten flags (R166). -/
theorem State.searchReady_iff {s : State} : s.searchReady = true ↔
    s.vtap = ⟨true, true, true⟩ ∧ s.vclk = ⟨true, true, true⟩ ∧ s.vseed.x = true ∧ s.vseed.z = true ∧ s.vct = true ∧
      s.vkp = true := by
  simp only [State.searchReady, Bool.and_eq_true, Marks.all_eq_true_iff, and_assoc]

/-- A response carries its data as a command without a register selector carries its operand (R70, R72). -/
theorem rspWord_eq_cmdWord (code : BitVec 4) (data : Payload) : rspWord code data = cmdWord code 0 data :=
  congrArg (· ++ data) (by decide +revert : code ++ (0 : BitVec 4) = code ++ (0 : BitVec 2) ++ (0 : BitVec 2))

theorem rspWord_found (y : YWord) : rspWord codeFound (toData y) = 0x10000000 ||| y.setWidth 32 := by
  rw [rspWord_eq_cmdWord]
  exact cmdWord_setWidth_eq_or codeFound 0 y

/-- Settles O33: the two ways an accepted search ends, each with its least hit or none, and the refusal. -/
theorem searchCommandOutcome : Obligations.SearchCommandOutcome := by
  refine fun s => ⟨fun htap hclk hx hz hct hkp => ?_, fun missing => ?_, rfl⟩
  · have ready : s.searchReady = true := State.searchReady_iff.mpr ⟨htap, hclk, hx, hz, hct, hkp⟩
    refine ⟨_, exec_search_of_ready ready, s.endSearch_frame _, ?_⟩
    rw [State.searchResult]
    obtain ⟨y, found, first⟩ | ⟨exhausted, fails⟩ := searchAll_cases s.cfg s.seed.x s.seed.z s.ct s.kp
    · rw [found]
      exact .inl ⟨y, first, rfl, rfl, congrArg (s.rspLog ++ [·]) (rspWord_found y)⟩
    · rw [exhausted]
      exact .inr ⟨fails, rfl, rfl⟩
  · rw [exec_search_of_not_ready (Bool.eq_false_iff.mpr (mt State.searchReady_iff.mp missing)), s.raise_eq_afterError]
    rfl

end Sys2Proof.Machine
end

section
/-! PROOFS. The control loop over CAND (R167 to R169): the turns of a trial compute Trial, a turn of the loop makes one trial,
and so the loop ends where SEARCH does (R173). -/

namespace Sys2Proof.Machine

/-- The working bit after the turns of a trial (R168): it stays 1 while the keystream agrees with the prefixes from IDX on. -/
theorem trialTurns_hit_iff (n : Nat) (s : State) (hit : Bool) (inRange : s.idx.toNat + n < 32) :
    (trialTurns n s hit).2 = true ↔ hit = true ∧
      ∀ j < n, (generate s.cfg s.lfsr n).2[j]? = some (posBit (s.ct ^^^ s.kp) (s.idx.toNat + j)) := by
  induction n generalizing s hit with
  | zero => simp [trialTurns]
  | succ n ih =>
    have next : (s.idx + 1).toNat = s.idx.toNat + 1 := BitVec.toNat_add_of_lt (by change s.idx.toNat + 1 < 32; omega)
    have bit (a b k : Bool) : a.xor k = b ↔ k = a.xor b := by decide +revert
    rw [trialTurns, ih _ _ (by simp only [next]; omega), Nat.forall_lt_succ_left, Bool.and_eq_true, and_assoc, beq_iff_eq, bit,
      next, ← posBit_xor]
    simp only [generate, List.getElem?_cons_zero, List.getElem?_cons_succ, Option.some.injEq, Nat.add_zero, Nat.add_assoc,
      Nat.add_comm 1]
    rfl

/-- The turns of a trial compute Trial for the current candidate (R168, R173). -/
theorem trialTurns_loadCandidate_hit (s : State) : (trialTurns Config.prefixLen s.loadCandidate true).2 =
    trial s.cfg s.seed.x (s.cand.setWidth 22) s.seed.z s.ct s.kp := by
  rw [Bool.eq_iff_iff, trial_iff_posBit, trialTurns_hit_iff _ _ _ (by show 0 + 24 < 32; decide)]
  simp only [State.loadCandidate_idx, BitVec.ofNat_eq_ofNat, BitVec.toNat_ofNat, Nat.zero_mod, Nat.zero_add, true_and]
  rfl

theorem searchTicks_succ_of_busy {n : Nat} {s : State} (busy : (searchTicks n s).busy = true) :
    searchTicks (n + 1) s = searchTick (searchTicks n s) := by
  induction n generalizing s with
  | zero => exact if_pos busy
  | succ n ih =>
    rw [searchTicks] at busy ⊢
    split at busy
    · rw [if_pos ‹_›, ih busy, searchTicks, if_pos ‹_›]
    · exact absurd busy ‹_›

/-- The state `t` of the control loop for a SEARCH of `s` when candidate `n` is the next to be tried (R167 to R169). -/
def State.AtCandidate (s : State) (n : Nat) (t : State) : Prop :=
  ∃ g i, t = { s.enterSearch with lfsr := g, idx := i, cand := BitVec.ofNat 23 n }

namespace State.AtCandidate

variable {s t : State} {n : Nat}

theorem enterSearch (s : State) : s.AtCandidate 0 s.enterSearch := ⟨s.lfsr, s.idx, rfl⟩

section
variable (h : s.AtCandidate n t)
include h

theorem busy : t.busy = true := by
  obtain ⟨g, i, rfl⟩ := h
  rfl

theorem cand : t.cand = BitVec.ofNat 23 n := by
  obtain ⟨g, i, rfl⟩ := h
  rfl

theorem cand_toNat (inRange : n ≤ 2 ^ 22) : t.cand.toNat = n := by
  rw [h.cand, BitVec.toNat_ofNat, Nat.mod_eq_of_lt (by omega)]

/-- A search that ends overwrites everything the loop has written. -/
theorem endSearch (o : SearchOutcome) : t.endSearch o = s.endSearch o := by
  obtain ⟨g, i, rfl⟩ := h
  cases o <;> rfl

theorem afterTrial : s.AtCandidate n (trialTurns Config.prefixLen t.loadCandidate true).1 := by
  obtain ⟨g, i, turns⟩ := trialTurns_frame Config.prefixLen t.loadCandidate true
  obtain ⟨_, _, rfl⟩ := h
  exact ⟨g, i, turns⟩

theorem next : s.AtCandidate (n + 1) { t with cand := t.cand + 1 } := by
  obtain ⟨g, i, rfl⟩ := h
  exact ⟨g, i, by rw [BitVec.ofNat_add]; rfl⟩

/-- A turn of the loop after all candidates exhausts (R169). -/
theorem searchTick_last (last : n = 2 ^ 22) : searchTick t = s.endSearch .exhausted := by
  rw [searchTick, if_pos (by rw [h.cand, last]; rfl), h.endSearch]

end

section
variable {y : YWord} (h : s.AtCandidate y.toNat t)
include h

theorem candidate : t.cand.setWidth 22 = y := by
  rw [h.cand, BitVec.setWidth_ofNat_of_le (by decide), BitVec.ofNat_toNat, BitVec.setWidth_eq]

theorem cand_ne_last : t.cand ≠ 4194304 := fun last =>
  y.isLt.ne ((h.cand_toNat y.isLt.le).symm.trans (congrArg BitVec.toNat last))

theorem hit : (trialTurns Config.prefixLen t.loadCandidate true).2 = trial s.cfg s.seed.x y s.seed.z s.ct s.kp := by
  rw [trialTurns_loadCandidate_hit, h.candidate]
  obtain ⟨g, i, rfl⟩ := h
  rfl

/-- A turn of the loop accepts a candidate that passes its trial (R169). -/
theorem searchTick_passes (passes : trial s.cfg s.seed.x y s.seed.z s.ct s.kp = true) :
    searchTick t = s.endSearch (.found y) := by
  rw [searchTick, if_neg h.cand_ne_last, if_pos (h.hit.trans passes), h.afterTrial.endSearch, h.candidate]

/-- A turn of the loop goes on from a candidate that fails its trial to the next (R169). -/
theorem searchTick_fails (fails : trial s.cfg s.seed.x y s.seed.z s.ct s.kp = false) :
    s.AtCandidate (y.toNat + 1) (searchTick t) := by
  rw [searchTick, if_neg h.cand_ne_last, if_neg (by simp [h.hit, fails]), h.cand, ← h.afterTrial.cand]
  exact h.afterTrial.next

end

/-- The loop reaches candidate `n` after `n` turns when every candidate below it fails (R169). -/
theorem searchTicks (inRange : n ≤ 2 ^ 22)
    (fails : ∀ y : YWord, y.toNat < n → trial s.cfg s.seed.x y s.seed.z s.ct s.kp = false) :
    s.AtCandidate n (searchTicks n s.enterSearch) := by
  induction n with
  | zero => exact enterSearch s
  | succ n ih =>
    have here := ih (by omega) fun y hy => fails y (by omega)
    rw [searchTicks_succ_of_busy here.busy]
    obtain ⟨y, rfl⟩ : ∃ y : YWord, y.toNat = n := ⟨.ofNatLT n inRange, rfl⟩
    exact here.searchTick_fails (fails y (Nat.lt_succ_self _))

end State.AtCandidate

/-- Settles O35: the loop passes the candidates below the least hit, or all of them, and the next turn ends it. -/
theorem controlLoopComputesSearch : Obligations.ControlLoopComputesSearch := by
  refine fun s ready => ⟨fun y found => ?_, fun exhausted => ?_⟩
  · obtain ⟨passes, below⟩ := searchAll_eq_found_iff.mp found
    have reaches (n : Nat) (hn : n ≤ y.toNat) : s.AtCandidate n (searchTicks n s.enterSearch) :=
      .searchTicks (hn.trans y.isLt.le) fun y' hy' => below y' (hy'.trans_le hn)
    have here := reaches y.toNat le_rfl
    refine ⟨fun n hn => (reaches n hn).busy, ?_⟩
    rw [exec_search_of_ready ready, show s.searchResult = _ from found, searchTicks_succ_of_busy here.busy,
      here.searchTick_passes passes]
  · have fails := searchAll_eq_exhausted_iff.mp exhausted
    have reaches (n : Nat) (hn : n ≤ 2 ^ 22) : s.AtCandidate n (searchTicks n s.enterSearch) :=
      .searchTicks hn fun y _ => fails y
    have here := reaches 4194304 le_rfl
    refine ⟨fun n hn => ⟨(reaches n hn).busy, (reaches n hn).cand_toNat hn⟩, ?_⟩
    rw [exec_search_of_ready ready, show s.searchResult = _ from exhausted, searchTicks_succ_of_busy here.busy,
      here.searchTick_last rfl]

end Sys2Proof.Machine
end

section
/-! PROOFS. The host issues commands (R57, R190, R191): the run of a machine that has them at the head of its inputs is what
`issueAll` says, and a stream of STEP or CRYPT draws the keystream. -/

namespace Sys2Proof.Machine

/-- The first command is executed, the others are issued after it (R57). -/
theorem issueAll_cons {i : Instr} {s t : State} (h : exec i s = .next t) (is : List Instr)
    (wf : i.wellFormed = true := by rfl) : issueAll (i :: is) s = issueAll is t := by
  rw [issueAll, runWord_of_decode (decodeOfEncode i wf), h]

section inputs
variable {s t : State} (rest : List HostInput)

theorem State.ite_withInbox {p : Prop} [Decidable p] {u : State}
    (h : u = if p then s.withInbox rest else t.withInbox rest) : u = (if p then s else t).withInbox rest :=
  h.trans (apply_ite (State.withInbox · rest) p s t).symm

theorem State.endSearch_withInbox (o : SearchOutcome) :
    (s.withInbox rest).endSearch o = (s.endSearch o).withInbox rest := by cases o <;> rfl

/-- No command reads the inputs behind it (R57). -/
theorem exec_withInbox {i : Instr} (h : exec i s = .next t) : exec i (s.withInbox rest) = .next (t.withInbox rest) := by
  cases i
  all_goals cases h
  case nop | settapX | settapY | settapZ | seedX | seedY | seedZ | setct | setkp => rfl
  case search =>
    refine congrArg Host.Outcome.next (State.ite_withInbox rest ?_)
    rw [← State.endSearch_withInbox]
    rfl
  all_goals exact congrArg Host.Outcome.next (State.ite_withInbox rest rfl)

/-- An idle machine with commands at the head of its inputs executes them as `issueAll` says and takes no more (R57). -/
theorem core_run_asInputs {is : List Instr} (wf : ∀ i ∈ is, i.wellFormed = true) (idle : s.busy = false) :
    Host.Core.run core is.length (s.withInbox (asInputs is ++ rest)) = .next ((issueAll is s).withInbox rest) := by
  induction is generalizing s with
  | nil => rfl
  | cons i is ih =>
    obtain ⟨wfHead, wfTail⟩ := List.forall_mem_cons.mp wf
    obtain ⟨t, hexec⟩ := exec_ends i s
    have hstep : step (s.withInbox (asInputs (i :: is) ++ rest)) = .next (t.withInbox (asInputs is ++ rest)) :=
      calc step (s.withInbox (asInputs (i :: is) ++ rest))
          = runWord (encode i) (s.withInbox (asInputs is ++ rest)) := step_of_command rfl idle
        _ = exec i (s.withInbox (asInputs is ++ rest)) := runWord_of_decode (decodeOfEncode i wfHead) _
        _ = .next (t.withInbox (asInputs is ++ rest)) := exec_withInbox _ hexec
    rw [List.length_cons, core_run_succ hstep, ih wfTail ((exec_effect hexec).answeredOnce.idle idle),
      issueAll_cons hexec is wfHead]

end inputs

/-- XCRYPT with a valid generator (R191): by induction on the data bits, each drawing one keystream bit. -/
theorem issueAll_xcryptCommands (bits : List Bool) {s : State} (valid : s.gv = true) :
    issueAll (xcryptCommands bits) s = { s with
      lfsr := (generate s.cfg s.lfsr bits.length).1,
      rspLog := s.rspLog ++ (decrypt bits (generate s.cfg s.lfsr bits.length).2).map fun k => if k then 1 else 0 } := by
  induction bits generalizing s with
  | nil => exact congrArg (fun rspLog => { s with rspLog }) (List.append_nil _).symm
  | cons b bits ih =>
    have first : issueAll (xcryptCommands (b :: bits)) s = issueAll (xcryptCommands bits) _ :=
      issueAll_cons (exec_crypt_of_valid b valid) _
    rw [first, ih]
    · exact congrArg (fun rspLog => { s with lfsr := (generate s.cfg s.lfsr (bits.length + 1)).1, rspLog })
        (List.append_assoc ..)
    · exact valid

theorem decrypt_replicate_false (ks : List Bool) : decrypt (List.replicate ks.length false) ks = ks := by
  induction ks with
  | nil => rfl
  | cons k ks ih => simp [List.replicate_succ, decrypt, ih]

/-- GEN is XCRYPT of zeros (R152, R190). -/
theorem issueAll_genCommands_eq (n : Nat) (s : State) :
    issueAll (genCommands n) s = issueAll (xcryptCommands (List.replicate n false)) s := by
  induction n generalizing s with
  | zero => rfl
  | succ n ih => exact (issueAll_cons rfl _).trans ((ih _).trans (issueAll_cons rfl _).symm)

/-- GEN without a generator (R190): no register moves, and each STEP answers ERR_UNINIT. -/
theorem issueAll_genCommands_of_not_valid (n : Nat) {s : State} (notValid : s.gv = false) :
    (issueAll (genCommands n) s).lfsr = s.lfsr ∧
      (issueAll (genCommands n) s).rspLog = s.rspLog ++ List.replicate n 0xA0000000 := by
  induction n generalizing s with
  | zero => exact ⟨rfl, (List.append_nil _).symm⟩
  | succ n ih =>
    obtain ⟨hlfsr, hlog⟩ := ih (s := s.afterError 10) notValid
    have first : issueAll (genCommands (n + 1)) s = issueAll (genCommands n) (s.afterError 10) :=
      issueAll_cons (exec_step_of_not_valid notValid) _
    rw [first]
    exact ⟨hlfsr, hlog.trans (List.append_assoc ..)⟩

/-- Settles O28: the run is what the host's GEN gives, which with a generator is XCRYPT of zeros. -/
theorem genYieldsKeystream : Obligations.GenYieldsKeystream := by
  intro n s rest hin idle
  have run : Host.Core.run core n s = .next ((issueAll (genCommands n) s).withInbox rest) := by
    have inputs : asInputs (genCommands n) ++ rest = s.inbox := by rw [hin, asInputs, genCommands, List.map_replicate]; rfl
    have h := core_run_asInputs (s := s) rest (is := genCommands n) (fun _ hi => List.eq_of_mem_replicate hi ▸ rfl) idle
    rwa [inputs, genCommands, List.length_replicate] at h
  rw [run]
  refine ⟨fun valid => ?_, fun notValid => ⟨_, rfl, issueAll_genCommands_of_not_valid n notValid⟩⟩
  have keystream := decrypt_replicate_false (generate s.cfg s.lfsr n).2
  rw [generate_length] at keystream
  rw [issueAll_genCommands_eq, issueAll_xcryptCommands _ valid, List.length_replicate, keystream]
  rfl

/-- Settles O29: the run is what the host's XCRYPT gives. -/
theorem xcryptYieldsDecrypt : Obligations.XcryptYieldsDecrypt := by
  intro bits s rest hin idle valid
  have word (b : Bool) : encode (.crypt b) = if b then 0x60000001 else 0x60000000 := by cases b <;> rfl
  have inputs : asInputs (xcryptCommands bits) ++ rest = s.inbox := by simp [hin, asInputs, xcryptCommands, word]
  have run := core_run_asInputs (s := s) rest (is := xcryptCommands bits) (List.forall_mem_map.mpr fun _ _ => rfl) idle
  rw [inputs, issueAll_xcryptCommands bits valid, xcryptCommands, List.length_map] at run
  exact run

end Sys2Proof.Machine
end

section
/-! PROOFS. Text and bits (R196, R197): eight bits a character, and the round trip. -/

namespace Sys2Proof.Machine

section code
variable {C : Type} (code : C → BitVec 8) (char : BitVec 8 → C)

theorem textToBits_cons (ch : C) (text : List C) : textToBits code (ch :: text) = seqOfWord (code ch) ++ textToBits code text :=
  rfl

theorem textToBits_length (text : List C) : (textToBits code text).length = 8 * text.length := by
  induction text with
  | nil => rfl
  | cons ch text ih =>
    rw [textToBits_cons, List.length_append, seqOfWord_length, ih, List.length_cons]
    omega

/-- Bit `t` of character `i` stands at position `8i + t`, most significant first (R196). -/
theorem textToBits_getElem? {text : List C} {i t : Nat} {ch : C} (hch : text[i]? = some ch) (ht : t < 8) :
    (textToBits code text)[8 * i + t]? = some ((code ch).getLsbD (7 - t)) := by
  induction text generalizing i with
  | nil => simp at hch
  | cons first text ih =>
    rw [textToBits_cons]
    cases i with
    | zero =>
      cases hch
      rw [List.getElem?_append_left (by simpa using ht), Nat.mul_zero, Nat.zero_add, seqOfWord_getElem? _ ht, posBit_eq _ ht]
    | succ i =>
      have later : 8 * (i + 1) + t - (seqOfWord (code first)).length = 8 * i + t := by rw [seqOfWord_length]; omega
      rw [List.getElem?_append_right (by rw [seqOfWord_length]; omega), later, ih hch]

theorem textToBits_eq_map (text : List C) : textToBits code text = textToBits id (text.map code) :=
  (List.flatMap_map ..).symm

/-- The first eight bits give the first character (R197). -/
theorem bitsToText_seqOfWord_append (byte : BitVec 8) (bits : List Bool) :
    bitsToText char (seqOfWord byte ++ bits) = char byte :: bitsToText char bits :=
  congrArg (char · :: bitsToText char bits) (wordOfSeq_seqOfWord byte)

/-- A group of fewer than eight bits is dropped (R197). -/
theorem bitsToText_of_length_lt {tail : List Bool} (short : tail.length < 8) : bitsToText char tail = [] := by
  unfold bitsToText
  split
  · simp at short
    omega
  · rfl

/-- Whole groups of eight bits give a character each, and a shorter tail gives none (R197). -/
theorem bitsToText_textToBits_append (bytes : List (BitVec 8)) {tail : List Bool} (short : tail.length < 8) :
    bitsToText char (textToBits id bytes ++ tail) = bytes.map char := by
  induction bytes with
  | nil => exact bitsToText_of_length_lt char short
  | cons byte bytes ih =>
    rw [textToBits_cons, List.append_assoc, id, bitsToText_seqOfWord_append, ih, List.map_cons]

end code

/-- Settles O54: the positions of the bits, and the way back group by group, which the text's own codes are a case of. -/
theorem textRoundTrip : Obligations.TextRoundTrip := by
  intro code char text tail short
  refine ⟨textToBits_length code text, fun i t ch => textToBits_getElem? code,
    fun bytes => bitsToText_textToBits_append char bytes short, fun inverse => ?_⟩
  rw [textToBits_eq_map, bitsToText_textToBits_append char _ short, List.map_map]
  exact (List.map_congr_left inverse).trans (List.map_id text)

end Sys2Proof.Machine
end

section
/-! PROOFS. LOADCFG, RECOVER and DECRYPT_ALL (R192 to R194): the set-up commands answer OK(0) each, and then SEARCH, or the
CRYPT commands, give the result. -/

namespace Sys2Proof.Machine

/-! A set-up command makes its write and answers OK(0), and then the commands after it are issued. -/

section setup
variable (s : State) (is : List Instr)

theorem issueAll_settapOf (r : Reg) (mask : BitVec r.width) :
    issueAll (settapOf r mask :: is) s = issueAll is ((s.writeTap r mask).answered 0) :=
  issueAll_cons (exec_settapOf r mask s) is (by cases r <;> rfl)

theorem issueAll_setclkOf (r : Reg) (pos : Index) (inRange : pos.toNat ≤ r.width - 1) :
    issueAll (setclkOf r pos.toNat :: is) s = issueAll is ((s.writeClk r pos).answered 0) := by
  have hexec := exec_setclkOf_of_inRange s inRange
  rw [BitVec.ofNat_toNat, BitVec.setWidth_eq] at hexec
  exact issueAll_cons hexec is (by cases r <;> exact decide_eq_true pos.isLt)

theorem issueAll_seedOf (r : Reg) (bits : BitVec r.width) :
    issueAll (seedOf r bits :: is) s = issueAll is ((s.writeSeed r bits).answered 0) :=
  issueAll_cons (exec_seedOf r bits s) is (by cases r <;> rfl)

theorem issueAll_setct (p : Payload) : issueAll (.setct p :: is) s = issueAll is ((s.writeCt p).answered 0) := by
  obtain ⟨hexec, -⟩ := prefixWrites s p
  exact issueAll_cons hexec is

theorem issueAll_setkp (p : Payload) : issueAll (.setkp p :: is) s = issueAll is ((s.writeKp p).answered 0) := by
  obtain ⟨-, hexec, -⟩ := prefixWrites s p
  exact issueAll_cons hexec is

end setup

/-- Settles O55: three SETTAP and three SETCLK commands, each with its one write and its answer OK(0). -/
theorem loadCfgInstallsConfiguration : Obligations.LoadCfgInstallsConfiguration := by
  intro c s hx hy hz
  have commands : loadCfgCommands c = [settapOf .x c.tap.x, settapOf .y c.tap.y, settapOf .z c.tap.z,
    setclkOf .x c.clk.x.toNat, setclkOf .y c.clk.y.toNat, setclkOf .z c.clk.z.toNat] := rfl
  rw [commands, issueAll_settapOf, issueAll_settapOf, issueAll_settapOf, issueAll_setclkOf _ _ .x _ hx,
    issueAll_setclkOf _ _ .y _ hy, issueAll_setclkOf _ _ .z _ hz, issueAll]
  simp [State.answered, State.writeTap, State.writeClk, Regs.set, Indices.set, Marks.mark]

/-- The state in which RECOVER issues SEARCH: two seeds and the prefixes are written, and four commands answered (R193). -/
def State.withSearchInputs (s : State) (sx : XWord) (sz : ZWord) (ct kp : Payload) : State :=
  { s with
    seed := { s.seed with x := sx, z := sz }, vseed := { s.vseed with x := true, z := true }
    ct := ct, vct := true, kp := kp, vkp := true, rspLog := s.rspLog ++ [0, 0, 0, 0] }

/-- The state RECOVER leaves when a configuration is loaded (R193). -/
def State.recovered (s : State) (sx : XWord) (sz : ZWord) (ct kp : Payload) : State :=
  (s.withSearchInputs sx sz ct kp).endSearch (searchAll s.cfg sx sz ct kp)

/-- The configuration stays in force. -/
theorem State.recovered_configuration (s : State) (sx : XWord) (sz : ZWord) (ct kp : Payload) :
    (s.recovered sx sz ct kp).vtap = s.vtap ∧ (s.recovered sx sz ct kp).vclk = s.vclk ∧
      (s.recovered sx sz ct kp).cfg = s.cfg := by
  rw [State.recovered]
  cases searchAll s.cfg sx sz ct kp <;> exact ⟨rfl, rfl, rfl⟩

/-- The candidate of an outcome, none as the failure signal (R193). -/
def SearchOutcome.candidate : SearchOutcome → Option YWord
  | .found y => some y
  | .exhausted => none

/-- SEARCH answers its outcome, and the host reads the candidate off the response (R73, R193). -/
theorem State.endSearch_rspLog_candidate (s : State) (o : SearchOutcome) :
    ∃ rsp, (s.endSearch o).rspLog = s.rspLog ++ [rsp] ∧ foundCandidate rsp = o.candidate := by
  cases o with
  | found y =>
    have code : (rspWord codeFound (toData y)).extractLsb' 28 4 = codeFound := rspCode_rspWord ..
    exact ⟨_, rfl, (if_pos code).trans (congrArg some (candidate_rspWord ..))⟩
  | exhausted => exact ⟨_, rfl, by decide⟩

/-- The state in which DECRYPT_ALL issues the CRYPT commands: the generator of `g` is built, and four commands are answered
(R194). -/
def State.withGenerator (s : State) (g : Regs) : State :=
  { s with lfsr := g, gv := true, seed := g, vseed := ⟨true, true, true⟩, rspLog := s.rspLog ++ [0, 0, 0, 0] }

section configured
variable {s : State} (htap : s.vtap = ⟨true, true, true⟩) (hclk : s.vclk = ⟨true, true, true⟩)
include htap hclk

theorem issueAll_recoverCommands (sx : XWord) (sz : ZWord) (ct kp : List Bool) :
    issueAll (recoverCommands sx sz ct kp) s = s.recovered sx sz (wordOfSeq 24 (ct.take 24)) (wordOfSeq 24 (kp.take 24)) := by
  generalize hp : wordOfSeq 24 (ct.take 24) = p, hq : wordOfSeq 24 (kp.take 24) = q
  have commands : recoverCommands sx sz ct kp = [seedOf .x sx, seedOf .z sz, .setct p, .setkp q, .search] := by
    rw [recoverCommands, hp, hq]
    rfl
  have setup : issueAll (recoverCommands sx sz ct kp) s = issueAll [.search] (s.withSearchInputs sx sz p q) := by
    rw [commands, issueAll_seedOf, issueAll_seedOf, issueAll_setct, issueAll_setkp]
    simp [State.withSearchInputs, State.answered, State.writeSeed, State.writeCt, State.writeKp, Regs.set, Marks.mark]
  have ready : (s.withSearchInputs sx sz p q).searchReady = true :=
    State.searchReady_iff.mpr ⟨htap, hclk, rfl, rfl, rfl, rfl⟩
  exact setup.trans (issueAll_cons (exec_search_of_ready ready) [])

/-- RECOVER with a configuration loaded (R193): the last of its five responses is SEARCH's. -/
theorem recover_of_configured (sx : XWord) (sz : ZWord) (ct kp : List Bool) : recover sx sz ct kp s =
    (s.recovered sx sz (wordOfSeq 24 (ct.take 24)) (wordOfSeq 24 (kp.take 24)),
      (searchAll s.cfg sx sz (wordOfSeq 24 (ct.take 24)) (wordOfSeq 24 (kp.take 24))).candidate) := by
  rw [recover, issueAll_recoverCommands htap hclk]
  generalize wordOfSeq 24 (ct.take 24) = p, wordOfSeq 24 (kp.take 24) = q
  obtain ⟨rsp, hlog, hcandidate⟩ :=
    (s.withSearchInputs sx sz p q).endSearch_rspLog_candidate (searchAll s.cfg sx sz p q)
  have log : answers s (s.recovered sx sz p q) = [0, 0, 0, 0] ++ [rsp] := by
    rw [answers, State.recovered, hlog, State.withSearchInputs, List.append_assoc, List.drop_left]
  rw [log, List.getLast?_concat, Option.bind_some, hcandidate]

theorem issueAll_decryptAllCommands (g : Regs) (ct : List Bool) :
    issueAll (decryptAllCommands g ct) s = issueAll (xcryptCommands ct) (s.withGenerator g) := by
  have commands : decryptAllCommands g ct = seedOf .x g.x :: seedOf .y g.y :: seedOf .z g.z :: .init :: xcryptCommands ct :=
    rfl
  rw [commands, issueAll_seedOf, issueAll_seedOf, issueAll_seedOf, issueAll_cons (exec_init_of_ready ?_)]
  · simp [State.withGenerator, State.answered, State.writeSeed, State.construct, Regs.set, Marks.mark]
  · simp [State.initReady_iff, State.answered, State.writeSeed, Marks.mark, htap, hclk]

/-- DECRYPT_ALL with a configuration loaded (R194): what XCRYPT answers from the fresh generator. -/
theorem decryptAll_of_configured (g : Regs) (ct : List Bool) : decryptAll g ct s =
    (issueAll (xcryptCommands ct) (s.withGenerator g), decrypt ct (generate s.cfg g ct.length).2) := by
  have log : (answers s (issueAll (xcryptCommands ct) (s.withGenerator g))).drop 4 =
      (decrypt ct (generate s.cfg g ct.length).2).map fun k => if k then 1 else 0 := by
    rw [issueAll_xcryptCommands ct rfl, answers, List.drop_drop]
    exact List.drop_left' (List.length_append ..)
  have bit (k : Bool) : answerBit (if k then 1 else 0) = k := by cases k <;> rfl
  rw [decryptAll, issueAll_decryptAllCommands htap hclk, log, List.map_map]
  exact congrArg (Prod.mk _) ((List.map_congr_left fun k _ => bit k).trans (List.map_id _))

end configured

/-- Settles O56: SEARCH answers for RECOVER and clears GV. -/
theorem recoverReturnsSearchResult : Obligations.RecoverReturnsSearchResult := by
  intro s sx sz ct kp htap hclk _ _
  rw [recover_of_configured htap hclk]
  exact ⟨rfl, State.endSearch_gv ..⟩

/-- Settles O57: XCRYPT from the fresh generator answers the bits, and leaves the registers and GV. -/
theorem decryptAllUsesFreshGenerator : Obligations.DecryptAllUsesFreshGenerator := by
  intro s g ct htap hclk
  rw [decryptAll_of_configured htap hclk, issueAll_xcryptCommands ct rfl]
  exact ⟨rfl, rfl, rfl⟩

end Sys2Proof.Machine
end

section
/-! PROOFS. RECOVER_AND_DECRYPT (R195): RECOVER, then DECRYPT_ALL from the candidate, which is right on the first 24 bits. -/

namespace Sys2Proof.Machine

/-- The first bits of a keystream are the keystream of fewer steps (R136). -/
theorem generate_take (c : Cfg) (g : Regs) {n m : Nat} (h : n ≤ m) : (generate c g m).2.take n = (generate c g n).2 := by
  obtain ⟨k, rfl⟩ := Nat.exists_eq_add_of_le h
  rw [generate_add, List.take_left' (generate_length ..)]

/-- A candidate that passes its trial decrypts the first 24 bits of the stream to those of the known one (R163, R194). -/
theorem decrypt_take_of_trial {c : Cfg} {sx : XWord} {y : YWord} {sz : ZWord} {ct kp : List Bool} (hct : 24 ≤ ct.length)
    (hkp : 24 ≤ kp.length) (passes : trial c sx y sz (wordOfSeq 24 (ct.take 24)) (wordOfSeq 24 (kp.take 24)) = true) :
    (decrypt ct (generate c ⟨sx, y, sz⟩ ct.length).2).take 24 = kp.take 24 :=
  calc (decrypt ct (generate c ⟨sx, y, sz⟩ ct.length).2).take 24
      = decrypt (ct.take 24) (generate c ⟨sx, y, sz⟩ 24).2 := by
        rw [decrypt_eq_zipWith, decrypt_eq_zipWith, List.take_zipWith, generate_take c _ hct]
    _ = decrypt (seqOfWord (wordOfSeq 24 (ct.take 24))) (generate c ⟨sx, y, sz⟩ 24).2 := by
        rw [seqOfWord_wordOfSeq (List.length_take_of_le hct)]
    _ = seqOfWord (wordOfSeq 24 (kp.take 24)) := trial_iff_decrypt.mp passes
    _ = kp.take 24 := seqOfWord_wordOfSeq (List.length_take_of_le hkp)

/-- Settles O58: RECOVER leaves the configuration in force, so DECRYPT_ALL follows it, with a candidate that passed its trial. -/
theorem recoverAndDecryptText : Obligations.RecoverAndDecryptText := by
  intro code char s sx sz known ct htap hclk hct hknown
  have recovery := recover_of_configured htap hclk sx sz ct (textToBits code known)
  refine ⟨fun y found => ?_, fun exhausted => ?_⟩
  · obtain ⟨passes, -⟩ := searchAll_eq_found_iff.mp found
    have enough : 24 ≤ (textToBits code known).length := by rw [textToBits_length]; omega
    refine ⟨?_, decrypt_take_of_trial hct enough passes⟩
    obtain ⟨htap', hclk', hcfg⟩ := s.recovered_configuration sx sz (wordOfSeq 24 (ct.take 24))
      (wordOfSeq 24 ((textToBits code known).take 24))
    rw [State.cfg, found, SearchOutcome.candidate] at recovery
    simp only [recoverAndDecrypt, recovery, decryptAll_of_configured (htap'.trans htap) (hclk'.trans hclk), hcfg]
    rfl
  · rw [State.cfg, exhausted] at recovery
    rw [recoverAndDecrypt, recovery]
    rfl

end Sys2Proof.Machine
end

section
/-! PROOFS. NOP and RD (R210, R211): a read answers its register or ERR_UNINIT, and after the write of a register it answers
the payload that was written. -/

namespace Sys2Proof

/-- `cmd[27:26]` of a command that names a register (R71). -/
def Reg.selector : Reg → BitVec 2
  | .x => 0
  | .y => 1
  | .z => 2

/-- A sequence fits the payload (R74). -/
theorem Reg.width_le (r : Reg) : r.width ≤ 24 := by cases r <;> decide

/-- A word that decodes has legal fields (R82). -/
theorem legalFields_of_decode {op : BitVec 4} {r : BitVec 2} {p : Payload} {i : Instr}
    (h : decode (cmdWord op r p) = .ok i) : LegalFields op r 0 p :=
  legalWord_cmdWord.mp (commandWord_iff_legalWord.mp ⟨i, encodeOfDecode _ i h⟩)

/-- A word decodes to the well-formed command whose word it is, and to no other. -/
theorem eq_of_decode_of_encode {w : CmdWord} {i j : Instr} (h : decode w = .ok i) (wf : j.wellFormed = true)
    (word : encode j = w) : i = j := by
  subst word
  exact Except.ok.inj (h.symm.trans (decodeOfEncode j wf))

/-- The payload of a SETTAP or SEED is a sequence of its register's width (R76). -/
theorem exists_sequence_of_decode {op : BitVec 4} {r : Reg} {p : Payload} {i : Instr} (hop : op ∈ [1, 3])
    (h : decode (cmdWord op r.selector p) = .ok i) : ∃ m : BitVec r.width, m.setWidth 24 = p := by
  obtain ⟨-, -, -, -, -, hseq, -⟩ := legalFields_of_decode h
  obtain ⟨hx, hy, hz⟩ := hseq hop
  refine ⟨p.setWidth r.width, setWidth_setWidth_of_lt ?_⟩
  cases r
  case x => exact hx rfl
  case y => exact hy rfl
  case z => exact hz rfl

namespace Machine

/-! The reads of a register, named as the writes are (`settapOf`, `setclkOf`, `seedOf`). -/

/-- `RD.TAP r` (R211). -/
def rdTapOf : Reg → Instr
  | .x => .rdTapX
  | .y => .rdTapY
  | .z => .rdTapZ

/-- `RD.CLK r` (R211). -/
def rdClkOf : Reg → Instr
  | .x => .rdClkX
  | .y => .rdClkY
  | .z => .rdClkZ

/-- `RD.SEED r` (R211). -/
def rdSeedOf : Reg → Instr
  | .x => .rdSeedX
  | .y => .rdSeedY
  | .z => .rdSeedZ

/-- `RD.LFSR r` (R211). -/
def rdLfsrOf : Reg → Instr
  | .x => .rdLfsrX
  | .y => .rdLfsrY
  | .z => .rdLfsrZ

theorem setWidth_toData {n : Nat} (hn : n ≤ 24) (v : BitVec n) : (toData v).setWidth 32 = v.setWidth 32 :=
  BitVec.setWidth_setWidth (by omega)

section reads
variable (r : Reg) (s : State)

/-- A read of a register of at most 24 bits answers it zero-extended (R72, R211). -/
theorem State.readOut_toData (valid : Bool) {n : Nat} (v : BitVec n) (hn : n ≤ 24) :
    s.readOut valid (toData v) = if valid then s.answered (v.setWidth 32) else s.afterError 10 := by
  rw [State.readOut_eq, setWidth_toData hn]

theorem exec_rdTapOf : exec (rdTapOf r) s =
    .next (if s.vtap.get r then s.answered ((s.tap.get r).setWidth 32) else s.afterError 10) := by
  cases r <;> exact congrArg Host.Outcome.next (s.readOut_toData _ _ (by decide))

theorem exec_rdClkOf : exec (rdClkOf r) s =
    .next (if s.vclk.get r then s.answered ((s.clk.get r).setWidth 32) else s.afterError 10) := by
  cases r <;> exact congrArg Host.Outcome.next (s.readOut_toData _ _ (by decide))

theorem exec_rdSeedOf : exec (rdSeedOf r) s =
    .next (if s.vseed.get r then s.answered ((s.seed.get r).setWidth 32) else s.afterError 10) := by
  cases r <;> exact congrArg Host.Outcome.next (s.readOut_toData _ _ (by decide))

theorem exec_rdLfsrOf : exec (rdLfsrOf r) s =
    .next (if s.gv then s.answered ((s.lfsr.get r).setWidth 32) else s.afterError 10) := by
  cases r <;> exact congrArg Host.Outcome.next (s.readOut_toData _ _ (by decide))

theorem exec_rdCt : exec .rdCt s = .next (if s.vct then s.answered (s.ct.setWidth 32) else s.afterError 10) :=
  congrArg Host.Outcome.next (s.readOut_eq _ _)

theorem exec_rdKp : exec .rdKp s = .next (if s.vkp then s.answered (s.kp.setWidth 32) else s.afterError 10) :=
  congrArg Host.Outcome.next (s.readOut_eq _ _)

/-- The valid condition of RD.RES is that the last search has found (R30, R211). -/
theorem exec_rdRes : exec .rdRes s =
    .next (if s.sres = .found then s.answered (s.res.setWidth 32) else s.afterError 10) :=
  congrArg Host.Outcome.next ((s.readOut_toData _ _ (by decide)).trans (if_congr beq_iff_eq rfl rfl))

end reads

/-- Settles O39: STATUS is always valid, and every other read answers under its flag. -/
theorem readsAnswerRegister : Obligations.ReadsAnswerRegister :=
  fun s => ⟨congrArg Host.Outcome.next (s.ok_eq_answered s.status), exec_rdRes s,
    exec_rdTapOf .x s, exec_rdTapOf .y s, exec_rdTapOf .z s, exec_rdClkOf .x s, exec_rdClkOf .y s, exec_rdClkOf .z s,
    exec_rdSeedOf .x s, exec_rdSeedOf .y s, exec_rdSeedOf .z s, exec_rdLfsrOf .x s, exec_rdLfsrOf .y s, exec_rdLfsrOf .z s,
    exec_rdCt s, exec_rdKp s⟩

/-- Settles O38: with `op` = 0 a legal word has its other fields zero, so it is 0. -/
theorem nopOnlyAnswers : Obligations.NopOnlyAnswers := by
  refine ⟨fun s => congrArg Host.Outcome.next (s.ok_eq_answered 0), rfl, fun w s op nonzero => ?_⟩
  have notLegal : ¬ LegalWord w := by
    rintro ⟨-, -, rsv, hr, himm, -⟩
    refine nonzero ?_
    rw [← cmdWord_fields rsv, op, hr (.inl (by simp [op])), himm (by simp [op])]
    rfl
  obtain ⟨-, answers⟩ := illegalWordsExactly w
  exact answers (decode_eq_error_iff.mpr (mt commandWord_iff_legalWord.mp notLegal)) s

@[simp] theorem Regs.get_set (g : Regs) (r : Reg) (v : BitVec r.width) : (g.set r v).get r = v := by cases r <;> rfl

@[simp] theorem Indices.get_set (c : Indices) (r : Reg) (v : Index) : (c.set r v).get r = v := by cases r <;> rfl

@[simp] theorem Marks.get_mark (m : Marks) (r : Reg) : (m.mark r).get r = true := by cases r <;> rfl

theorem exec_setct (p : Payload) (s : State) : exec (.setct p) s = .next ((s.writeCt p).answered 0) :=
  congrArg Host.Outcome.next ((s.writeCt p).ok_eq_answered 0)

theorem exec_setkp (p : Payload) (s : State) : exec (.setkp p) s = .next ((s.writeKp p).answered 0) :=
  congrArg Host.Outcome.next ((s.writeKp p).ok_eq_answered 0)

/-- The write and then the read answer OK(0) and OK(p), whatever state the write is issued in (R211). -/
def ReadsBack (write read : Instr) (p : Payload) : Prop :=
  ∀ s, (issueAll [write, read] s).rspLog = s.rspLog ++ [0, p.setWidth 32]

namespace ReadsBack

/-- A write that makes the register valid and leaves `p` in it is read back. -/
theorem of_written {write read : Instr} {p : Payload} {written : State → State} {valid : State → Bool}
    {value : State → RspWord} (writes : ∀ s, exec write s = .next ((written s).answered 0))
    (reads : ∀ s, exec read s = .next (if valid s then s.answered (value s) else s.afterError 10))
    (log : ∀ s, (written s).rspLog = s.rspLog) (nowValid : ∀ s, valid ((written s).answered 0) = true)
    (nowValue : ∀ s, value ((written s).answered 0) = p.setWidth 32) (wfWrite : write.wellFormed = true)
    (wfRead : read.wellFormed = true) : ReadsBack write read p := by
  intro s
  have second := reads ((written s).answered 0)
  rw [if_pos (nowValid s), nowValue] at second
  rw [issueAll_cons (writes s) _ wfWrite, issueAll_cons second _ wfRead]
  simp [issueAll, State.answered, log]

variable {r : Reg}

theorem settap (m : BitVec r.width) : ReadsBack (settapOf r m) (rdTapOf r) (m.setWidth 24) := by
  refine of_written (exec_settapOf r m) (exec_rdTapOf r) (fun _ => rfl) (fun s => s.vtap.get_mark r) (fun s => ?_)
    (by cases r <;> rfl) (by cases r <;> rfl)
  exact (congrArg _ (s.tap.get_set r m)).trans (setWidth_toData r.width_le m).symm

theorem seed (b : BitVec r.width) : ReadsBack (seedOf r b) (rdSeedOf r) (b.setWidth 24) := by
  refine of_written (exec_seedOf r b) (exec_rdSeedOf r) (fun _ => rfl) (fun s => s.vseed.get_mark r) (fun s => ?_)
    (by cases r <;> rfl) (by cases r <;> rfl)
  exact (congrArg _ (s.seed.get_set r b)).trans (setWidth_toData r.width_le b).symm

theorem setclk {idx : Nat} (fits : idx < 32) (inRange : idx ≤ r.width - 1) :
    ReadsBack (setclkOf r idx) (rdClkOf r) (BitVec.ofNat 24 idx) := by
  refine of_written (exec_setclkOf_of_inRange · inRange) (exec_rdClkOf r) (fun _ => rfl) (fun s => s.vclk.get_mark r)
    (fun s => ?_) (by cases r <;> exact decide_eq_true fits) (by cases r <;> rfl)
  rw [Laws.Encoding.index_payload fits]
  exact (congrArg _ (s.clk.get_set r _)).trans (setWidth_toData (by decide) _).symm

theorem setct (p : Payload) : ReadsBack (.setct p) .rdCt p :=
  of_written (exec_setct p) exec_rdCt (fun _ => rfl) (fun _ => rfl) (fun _ => rfl) rfl rfl

theorem setkp (p : Payload) : ReadsBack (.setkp p) .rdKp p :=
  of_written (exec_setkp p) exec_rdKp (fun _ => rfl) (fun _ => rfl) (fun _ => rfl) rfl rfl

/-! The same from the word of the write: opcode and selector over the payload (R74). -/

variable {p : Payload} {i : Instr}

theorem of_settap_word (h : decode (((1 : BitVec 4) ++ r.selector ++ (0 : BitVec 26)) ||| p.setWidth 32) = .ok i) :
    ReadsBack i (rdTapOf r) p := by
  rw [← cmdWord_eq_or] at h
  obtain ⟨m, rfl⟩ := exists_sequence_of_decode (by decide) h
  obtain rfl : i = settapOf r m := eq_of_decode_of_encode h (by cases r <;> rfl) (by cases r <;> rfl)
  exact settap m

theorem of_seed_word (h : decode (((3 : BitVec 4) ++ r.selector ++ (0 : BitVec 26)) ||| p.setWidth 32) = .ok i) :
    ReadsBack i (rdSeedOf r) p := by
  rw [← cmdWord_eq_or] at h
  obtain ⟨b, rfl⟩ := exists_sequence_of_decode (by decide) h
  obtain rfl : i = seedOf r b := eq_of_decode_of_encode h (by cases r <;> rfl) (by cases r <;> rfl)
  exact seed b

theorem of_setclk_word (h : decode (((2 : BitVec 4) ++ r.selector ++ (0 : BitVec 26)) ||| p.setWidth 32) = .ok i)
    (inRange : ∀ idx, i = setclkOf r idx → idx ≤ r.width - 1) : ReadsBack i (rdClkOf r) p := by
  rw [← cmdWord_eq_or] at h
  obtain ⟨-, -, -, -, -, -, hidx, -⟩ := legalFields_of_decode h
  have fits : p.toNat < 32 := hidx rfl
  have payload : BitVec.ofNat 24 p.toNat = p := by simp
  have wf : (setclkOf r p.toNat).wellFormed = true := by cases r <;> exact decide_eq_true fits
  have word : encode (setclkOf r p.toNat) = cmdWord 2 r.selector (BitVec.ofNat 24 p.toNat) := by cases r <;> rfl
  rw [payload] at word
  obtain rfl : i = setclkOf r p.toNat := eq_of_decode_of_encode h wf word
  have back := setclk fits (inRange _ rfl)
  rwa [payload] at back

theorem of_setct_word (h : decode (0x70000000 ||| p.setWidth 32) = .ok i) : ReadsBack i .rdCt p := by
  obtain rfl : i = .setct p := eq_of_decode_of_encode h rfl (cmdWord_eq_or 7 0 p)
  exact setct p

theorem of_setkp_word (h : decode (0x80000000 ||| p.setWidth 32) = .ok i) : ReadsBack i .rdKp p := by
  obtain rfl : i = .setkp p := eq_of_decode_of_encode h rfl (cmdWord_eq_or 8 0 p)
  exact setkp p

/-- At the port a write and its read take two steps (R57). -/
theorem core_run {write read : Instr} (back : ReadsBack write read p) (wfWrite : write.wellFormed = true)
    (wfRead : read.wellFormed = true) {s : State} {rest : List HostInput} (idle : s.busy = false)
    (hin : s.inbox = .command (encode write) :: .command (encode read) :: rest) :
    ∃ t, Host.Core.run core 2 s = .next t ∧ t.inbox = rest ∧ t.rspLog = s.rspLog ++ [0, p.setWidth 32] := by
  have run := core_run_asInputs (s := s) rest (is := [write, read]) (by simp [wfWrite, wfRead]) idle
  have inputs : asInputs [write, read] ++ rest = s.inbox := hin.symm
  rw [inputs] at run
  exact ⟨_, run, rfl, back s⟩

end ReadsBack

/-- Settles O40: each of the eleven words is that of a write, and its register is read back. -/
theorem readBackThroughPort : Obligations.ReadBackThroughPort := by
  rintro s p rest wr rd pair ⟨i, hdec, hidx⟩ idle hin
  have inRange (r : Reg) (idx : Nat) (hi : i = setclkOf r idx) : idx ≤ r.width - 1 := by
    obtain ⟨hx, hy, hz⟩ := hidx idx
    cases r
    case x => exact hx hi
    case y => exact hy hi
    case z => exact hz hi
  obtain ⟨wfWrite, hwr⟩ := encodeOfDecode _ i hdec
  obtain ⟨read, wfRead, hrd, back⟩ : ∃ read, read.wellFormed = true ∧ encode read = rd ∧ ReadsBack i read p := by
    simp only [List.mem_cons, Prod.mk.injEq, List.not_mem_nil, or_false] at pair
    obtain ⟨rfl, rfl⟩ | ⟨rfl, rfl⟩ | ⟨rfl, rfl⟩ | ⟨rfl, rfl⟩ | ⟨rfl, rfl⟩ | ⟨rfl, rfl⟩ | ⟨rfl, rfl⟩ | ⟨rfl, rfl⟩ |
      ⟨rfl, rfl⟩ | ⟨rfl, rfl⟩ | ⟨rfl, rfl⟩ := pair
    · exact ⟨.rdTapX, rfl, rfl, .of_settap_word (r := .x) hdec⟩
    · exact ⟨.rdTapY, rfl, rfl, .of_settap_word (r := .y) hdec⟩
    · exact ⟨.rdTapZ, rfl, rfl, .of_settap_word (r := .z) hdec⟩
    · exact ⟨.rdClkX, rfl, rfl, .of_setclk_word (r := .x) hdec (inRange _)⟩
    · exact ⟨.rdClkY, rfl, rfl, .of_setclk_word (r := .y) hdec (inRange _)⟩
    · exact ⟨.rdClkZ, rfl, rfl, .of_setclk_word (r := .z) hdec (inRange _)⟩
    · exact ⟨.rdSeedX, rfl, rfl, .of_seed_word (r := .x) hdec⟩
    · exact ⟨.rdSeedY, rfl, rfl, .of_seed_word (r := .y) hdec⟩
    · exact ⟨.rdSeedZ, rfl, rfl, .of_seed_word (r := .z) hdec⟩
    · exact ⟨.rdCt, rfl, rfl, .of_setct_word hdec⟩
    · exact ⟨.rdKp, rfl, rfl, .of_setkp_word hdec⟩
  subst hrd
  rw [← hwr] at hin
  exact back.core_run wfWrite wfRead idle hin

end Machine
end Sys2Proof
end

section
/-! PROOFS. How a step goes on without a command (R57, R169, R234, R250), that every step ends (R231), and what a command that
ends in an error leaves (R222, R224). -/

namespace Sys2Proof.Machine

/-- Settles O53: a response with an error code is that of an error, every other code being below 8. -/
theorem errorChangesOnlyFlags : Obligations.ErrorChangesOnlyFlags := by
  intro w s t rsp hrun hlog herror
  obtain ⟨e, rfl⟩ | ⟨code, data, hcode, hlog', -, -⟩ := runWord_cases hrun
  · have hrsp : rsp = rspWord e.code 0 := by simpa using hlog.symm
    rw [hrsp, rspCode_rspWord, rspWord_error]
    exact ⟨s.raise_eq_afterError e, BitVec.extractLsb'_append_eq_right⟩
  · have hrsp : rsp = rspWord code data := by simpa [hlog'] using hlog.symm
    rw [hrsp, rspCode_rspWord] at herror
    omega

section step
variable {s : State} {rest : List HostInput}

/-- A reset at the head of the inputs acts at once, the core busy or not (R250). -/
theorem step_of_reset (hin : s.inbox = .reset :: rest) : step s = .next (s.withInbox rest).resetCore := by
  simp [step, advance, hin]

/-- A command that reset cuts off leaves the reset state (R250). -/
theorem step_of_cutOff {w : CmdWord} (hin : s.inbox = .cutOff w :: rest) (idle : s.busy = false) :
    step s = .next (s.withInbox rest).resetCore := by
  simp [step, advance, hin, idle]

/-- An idle core with nothing presented keeps its state (R234). -/
theorem step_of_no_input (hin : s.inbox = []) (idle : s.busy = false) : step s = .next s := by
  simp [step, advance, hin, idle]

/-- A busy core that takes no reset goes on with its search (R57, R169). -/
theorem step_of_busy (busy : s.busy = true) (noReset : ∀ rest, s.inbox ≠ .reset :: rest) :
    step s = .next (searchTick s) := by
  unfold step advance
  split
  · exact absurd ‹_› (noReset _)
  all_goals simp [busy]

end step

/-- Every step ends in a next state, whatever stands at the head of the inputs (R231). -/
theorem step_ends (s : State) : ∃ t, step s = .next t := by
  by_cases reset : ∃ rest, s.inbox = .reset :: rest
  · obtain ⟨rest, hin⟩ := reset
    exact ⟨_, step_of_reset hin⟩
  cases hbusy : s.busy with
  | true => exact ⟨_, step_of_busy hbusy (not_exists.mp reset)⟩
  | false =>
    match hin : s.inbox with
    | [] => exact ⟨_, step_of_no_input hin hbusy⟩
    | .reset :: rest => exact absurd ⟨rest, hin⟩ reset
    | .command w :: rest => exact step_of_command hin hbusy ▸ runWord_ends w _
    | .cutOff w :: rest => exact ⟨_, step_of_cutOff hin hbusy⟩

/-- Settles O47: `exec` and `step` are total, and neither faults nor refuses. -/
theorem everyCommandEnds : Obligations.EveryCommandEnds := ⟨exec_ends, step_ends⟩

/-- A trial of the control loop takes no input, whether it ends the search or not (R57). -/
theorem searchTick_inbox (s : State) : (searchTick s).inbox = s.inbox := by
  obtain ⟨g, i, hturns⟩ := trialTurns_frame Config.prefixLen s.loadCandidate true
  unfold searchTick
  rw [hturns]
  split
  · rfl
  · split <;> rfl

/-- Settles O2, by the two steps without an input to take. -/
theorem idleAndBusySteps : Obligations.IdleAndBusySteps :=
  fun s => ⟨step_of_no_input, fun busy noReset => ⟨step_of_busy busy noReset, searchTick_inbox s⟩⟩

/-- STATUS shows flags alone, so after a reset it is that of the reset state (R33, R36). -/
theorem State.resetCore_status (s : State) : s.resetCore.status = State.reset.status := rfl

/-- Settles O3: both ways a reset reaches the core end in `resetCore`. -/
theorem resetInputClears : Obligations.ResetInputClears := by
  intro s rest input
  have hstep : step s = .next (s.withInbox rest).resetCore := by
    obtain hin | ⟨idle, w, hin⟩ := input
    · exact step_of_reset hin
    · exact step_of_cutOff hin idle
  exact ⟨_, hstep, rfl, rfl, rfl, rfl, rfl, rfl, rfl, rfl, rfl, rfl, rfl, rfl,
    State.resetCore_status _⟩

/-- A command that needs a flag answers ERR_UNINIT while the flag is 0 (R222). -/
theorem exec_of_flag_clear {i : Instr} {s t : State} {flag : Bool}
    (meaning : exec i s = .next (if flag then t else s.afterError 10)) (clear : flag = false) :
    exec i s = .next (s.afterError 10) := by
  rw [meaning, clear]
  rfl

/-- Settles O52: INIT and SEARCH by their lists of flags, STEP and CRYPT by GV, and each read by the flag it is valid under. -/
theorem uninitCommandByCommand : Obligations.UninitCommandByCommand := by
  intro s
  refine ⟨fun missing => ?init, exec_step_of_not_valid, exec_crypt_of_not_valid, fun missing => ?search,
    fun noResult => ?res,
    exec_of_flag_clear (exec_rdTapOf .x s), exec_of_flag_clear (exec_rdTapOf .y s), exec_of_flag_clear (exec_rdTapOf .z s),
    exec_of_flag_clear (exec_rdClkOf .x s), exec_of_flag_clear (exec_rdClkOf .y s), exec_of_flag_clear (exec_rdClkOf .z s),
    exec_of_flag_clear (exec_rdSeedOf .x s), exec_of_flag_clear (exec_rdSeedOf .y s),
    exec_of_flag_clear (exec_rdSeedOf .z s),
    fun noGenerator => ⟨exec_of_flag_clear (exec_rdLfsrOf .x s) noGenerator,
      exec_of_flag_clear (exec_rdLfsrOf .y s) noGenerator, exec_of_flag_clear (exec_rdLfsrOf .z s) noGenerator⟩,
    exec_of_flag_clear (exec_rdCt s), exec_of_flag_clear (exec_rdKp s)⟩
  case init =>
    have notReady : s.initReady = false := by rw [← missing]; simp only [State.initReady, Marks.all, Bool.and_assoc]
    exact exec_init_of_not_ready (Bool.eq_false_iff.mp notReady)
  case search =>
    have notReady : s.searchReady = false := by rw [← missing]; simp only [State.searchReady, Marks.all, Bool.and_assoc]
    exact (exec_search_of_not_ready notReady).trans (congrArg Host.Outcome.next (s.raise_eq_afterError .uninit))
  case res =>
    rw [exec_rdRes, if_neg noResult]

end Sys2Proof.Machine
end
